-- ==== Sys2Proof/Word.lean ====
section
/-! DEFINITION. The two word widths (00_scope.md R9), and the finite sets of names the encoding fields select: the 3-bit register
index (10_state.md R30), the 2-bit pair index and its context (R34), the 3-bit condition (R42) and the 3-bit ALU operation
(41_alu_flags.md R151). -/

namespace Sys2Proof

/-- A byte: 8 bits (R9). -/
abbrev Byte := BitVec 8

/-- A word, and an address: 16 bits (R9, R70). -/
abbrev Word := BitVec 16

/-- The eight values of a 3-bit register field, in index order (R30). `m` is no register: it is the memory byte at HL. -/
inductive Reg8 where
  | b | c | d | e | h | l | m | a
  deriving DecidableEq, Repr

/-- The four values of a 2-bit pair field, in index order (R34). `fourth` is SP or PSW, as the context says. -/
inductive Pair where
  | bc | de | hl | fourth
  deriving DecidableEq, Repr

/-- The "status context" of a pair access (R34, R35). -/
inductive PairCtx where
  | sp | psw
  deriving DecidableEq, Repr

/-- The eight conditions, in the order of the `reg1` field (R42). -/
inductive Cond where
  | nz | z | nc | c | po | pe | p | m
  deriving DecidableEq, Repr

/-- The eight ALU operations, in the order of the `reg1` field (R151). -/
inductive AluOp where
  | add | adc | sub | sbb | ana | xra | ora | cmp
  deriving DecidableEq, Repr

end Sys2Proof
end

