-- ==== Sys2Proof/Syntax.lean ====
section
/-! DEFINITION. The instructions: one constructor for each mnemonic of spec/opcode_table.json (30_encoding.md R108, R114), whose
docstring gives the opcode byte and the rule of its meaning. The 12 rows of the mnemonic "(fatal)" are the one constructor `fatal`,
which carries the opcode byte that tells them apart. -/

namespace Sys2Proof

/-- One constructor per mnemonic of the opcode table; an operand is the value R103 assembles from the bytes after the opcode. -/
inductive Instr where
  /-- An opcode byte that no tier decodes: 0x08 0x10 0x18 0x20 0x28 0x30 0x38 0xCB 0xD9 0xDD 0xED 0xFD (R104, R135). -/
  | fatal (op : Byte)
  /-- 0x00 NOP (R271). -/
  | nop
  /-- 0x01 LXI B,d16 (R185). -/
  | lxiB (d16 : Word)
  /-- 0x02 STAX B (R191). -/
  | staxB
  /-- 0x03 INX B (R228). -/
  | inxB
  /-- 0x04 INR B (R224). -/
  | inrB
  /-- 0x05 DCR B (R226). -/
  | dcrB
  /-- 0x06 MVI B,d8 (R183). -/
  | mviB (d8 : Byte)
  /-- 0x07 RLC (R235). -/
  | rlc
  /-- 0x09 DAD B (R230). -/
  | dadB
  /-- 0x0A LDAX B (R190). -/
  | ldaxB
  /-- 0x0B DCX B (R229). -/
  | dcxB
  /-- 0x0C INR C (R224). -/
  | inrC
  /-- 0x0D DCR C (R226). -/
  | dcrC
  /-- 0x0E MVI C,d8 (R183). -/
  | mviC (d8 : Byte)
  /-- 0x0F RRC (R236). -/
  | rrc
  /-- 0x11 LXI D,d16 (R185). -/
  | lxiD (d16 : Word)
  /-- 0x12 STAX D (R191). -/
  | staxD
  /-- 0x13 INX D (R228). -/
  | inxD
  /-- 0x14 INR D (R224). -/
  | inrD
  /-- 0x15 DCR D (R226). -/
  | dcrD
  /-- 0x16 MVI D,d8 (R183). -/
  | mviD (d8 : Byte)
  /-- 0x17 RAL (R237). -/
  | ral
  /-- 0x19 DAD D (R230). -/
  | dadD
  /-- 0x1A LDAX D (R190). -/
  | ldaxD
  /-- 0x1B DCX D (R229). -/
  | dcxD
  /-- 0x1C INR E (R224). -/
  | inrE
  /-- 0x1D DCR E (R226). -/
  | dcrE
  /-- 0x1E MVI E,d8 (R183). -/
  | mviE (d8 : Byte)
  /-- 0x1F RAR (R238). -/
  | rar
  /-- 0x21 LXI H,d16 (R185). -/
  | lxiH (d16 : Word)
  /-- 0x22 SHLD a16 (R189). -/
  | shld (a16 : Word)
  /-- 0x23 INX H (R228). -/
  | inxH
  /-- 0x24 INR H (R224). -/
  | inrH
  /-- 0x25 DCR H (R226). -/
  | dcrH
  /-- 0x26 MVI H,d8 (R183). -/
  | mviH (d8 : Byte)
  /-- 0x27 DAA (R231). -/
  | daa
  /-- 0x29 DAD H (R230). -/
  | dadH
  /-- 0x2A LHLD a16 (R188). -/
  | lhld (a16 : Word)
  /-- 0x2B DCX H (R229). -/
  | dcxH
  /-- 0x2C INR L (R224). -/
  | inrL
  /-- 0x2D DCR L (R226). -/
  | dcrL
  /-- 0x2E MVI L,d8 (R183). -/
  | mviL (d8 : Byte)
  /-- 0x2F CMA (R239). -/
  | cma
  /-- 0x31 LXI SP,d16 (R185). -/
  | lxiSp (d16 : Word)
  /-- 0x32 STA a16 (R187). -/
  | sta (a16 : Word)
  /-- 0x33 INX SP (R228). -/
  | inxSp
  /-- 0x34 INR M (R225). -/
  | inrM
  /-- 0x35 DCR M (R227). -/
  | dcrM
  /-- 0x36 MVI M,d8 (R184). -/
  | mviM (d8 : Byte)
  /-- 0x37 STC (R240). -/
  | stc
  /-- 0x39 DAD SP (R230). -/
  | dadSp
  /-- 0x3A LDA a16 (R186). -/
  | lda (a16 : Word)
  /-- 0x3B DCX SP (R229). -/
  | dcxSp
  /-- 0x3C INR A (R224). -/
  | inrA
  /-- 0x3D DCR A (R226). -/
  | dcrA
  /-- 0x3E MVI A,d8 (R183). -/
  | mviA (d8 : Byte)
  /-- 0x3F CMC (R241). -/
  | cmc
  /-- 0x40 MOV B,B (R180). -/
  | movBB
  /-- 0x41 MOV B,C (R180). -/
  | movBC
  /-- 0x42 MOV B,D (R180). -/
  | movBD
  /-- 0x43 MOV B,E (R180). -/
  | movBE
  /-- 0x44 MOV B,H (R180). -/
  | movBH
  /-- 0x45 MOV B,L (R180). -/
  | movBL
  /-- 0x46 MOV B,M (R181). -/
  | movBM
  /-- 0x47 MOV B,A (R180). -/
  | movBA
  /-- 0x48 MOV C,B (R180). -/
  | movCB
  /-- 0x49 MOV C,C (R180). -/
  | movCC
  /-- 0x4A MOV C,D (R180). -/
  | movCD
  /-- 0x4B MOV C,E (R180). -/
  | movCE
  /-- 0x4C MOV C,H (R180). -/
  | movCH
  /-- 0x4D MOV C,L (R180). -/
  | movCL
  /-- 0x4E MOV C,M (R181). -/
  | movCM
  /-- 0x4F MOV C,A (R180). -/
  | movCA
  /-- 0x50 MOV D,B (R180). -/
  | movDB
  /-- 0x51 MOV D,C (R180). -/
  | movDC
  /-- 0x52 MOV D,D (R180). -/
  | movDD
  /-- 0x53 MOV D,E (R180). -/
  | movDE
  /-- 0x54 MOV D,H (R180). -/
  | movDH
  /-- 0x55 MOV D,L (R180). -/
  | movDL
  /-- 0x56 MOV D,M (R181). -/
  | movDM
  /-- 0x57 MOV D,A (R180). -/
  | movDA
  /-- 0x58 MOV E,B (R180). -/
  | movEB
  /-- 0x59 MOV E,C (R180). -/
  | movEC
  /-- 0x5A MOV E,D (R180). -/
  | movED
  /-- 0x5B MOV E,E (R180). -/
  | movEE
  /-- 0x5C MOV E,H (R180). -/
  | movEH
  /-- 0x5D MOV E,L (R180). -/
  | movEL
  /-- 0x5E MOV E,M (R181). -/
  | movEM
  /-- 0x5F MOV E,A (R180). -/
  | movEA
  /-- 0x60 MOV H,B (R180). -/
  | movHB
  /-- 0x61 MOV H,C (R180). -/
  | movHC
  /-- 0x62 MOV H,D (R180). -/
  | movHD
  /-- 0x63 MOV H,E (R180). -/
  | movHE
  /-- 0x64 MOV H,H (R180). -/
  | movHH
  /-- 0x65 MOV H,L (R180). -/
  | movHL
  /-- 0x66 MOV H,M (R181). -/
  | movHM
  /-- 0x67 MOV H,A (R180). -/
  | movHA
  /-- 0x68 MOV L,B (R180). -/
  | movLB
  /-- 0x69 MOV L,C (R180). -/
  | movLC
  /-- 0x6A MOV L,D (R180). -/
  | movLD
  /-- 0x6B MOV L,E (R180). -/
  | movLE
  /-- 0x6C MOV L,H (R180). -/
  | movLH
  /-- 0x6D MOV L,L (R180). -/
  | movLL
  /-- 0x6E MOV L,M (R181). -/
  | movLM
  /-- 0x6F MOV L,A (R180). -/
  | movLA
  /-- 0x70 MOV M,B (R182). -/
  | movMB
  /-- 0x71 MOV M,C (R182). -/
  | movMC
  /-- 0x72 MOV M,D (R182). -/
  | movMD
  /-- 0x73 MOV M,E (R182). -/
  | movME
  /-- 0x74 MOV M,H (R182). -/
  | movMH
  /-- 0x75 MOV M,L (R182). -/
  | movML
  /-- 0x76 HLT (R270). -/
  | hlt
  /-- 0x77 MOV M,A (R182). -/
  | movMA
  /-- 0x78 MOV A,B (R180). -/
  | movAB
  /-- 0x79 MOV A,C (R180). -/
  | movAC
  /-- 0x7A MOV A,D (R180). -/
  | movAD
  /-- 0x7B MOV A,E (R180). -/
  | movAE
  /-- 0x7C MOV A,H (R180). -/
  | movAH
  /-- 0x7D MOV A,L (R180). -/
  | movAL
  /-- 0x7E MOV A,M (R181). -/
  | movAM
  /-- 0x7F MOV A,A (R180). -/
  | movAA
  /-- 0x80 ADD B (R200). -/
  | addB
  /-- 0x81 ADD C (R200). -/
  | addC
  /-- 0x82 ADD D (R200). -/
  | addD
  /-- 0x83 ADD E (R200). -/
  | addE
  /-- 0x84 ADD H (R200). -/
  | addH
  /-- 0x85 ADD L (R200). -/
  | addL
  /-- 0x86 ADD M (R201). -/
  | addM
  /-- 0x87 ADD A (R200). -/
  | addA
  /-- 0x88 ADC B (R202). -/
  | adcB
  /-- 0x89 ADC C (R202). -/
  | adcC
  /-- 0x8A ADC D (R202). -/
  | adcD
  /-- 0x8B ADC E (R202). -/
  | adcE
  /-- 0x8C ADC H (R202). -/
  | adcH
  /-- 0x8D ADC L (R202). -/
  | adcL
  /-- 0x8E ADC M (R203). -/
  | adcM
  /-- 0x8F ADC A (R202). -/
  | adcA
  /-- 0x90 SUB B (R204). -/
  | subB
  /-- 0x91 SUB C (R204). -/
  | subC
  /-- 0x92 SUB D (R204). -/
  | subD
  /-- 0x93 SUB E (R204). -/
  | subE
  /-- 0x94 SUB H (R204). -/
  | subH
  /-- 0x95 SUB L (R204). -/
  | subL
  /-- 0x96 SUB M (R205). -/
  | subM
  /-- 0x97 SUB A (R204). -/
  | subA
  /-- 0x98 SBB B (R206). -/
  | sbbB
  /-- 0x99 SBB C (R206). -/
  | sbbC
  /-- 0x9A SBB D (R206). -/
  | sbbD
  /-- 0x9B SBB E (R206). -/
  | sbbE
  /-- 0x9C SBB H (R206). -/
  | sbbH
  /-- 0x9D SBB L (R206). -/
  | sbbL
  /-- 0x9E SBB M (R207). -/
  | sbbM
  /-- 0x9F SBB A (R206). -/
  | sbbA
  /-- 0xA0 ANA B (R208). -/
  | anaB
  /-- 0xA1 ANA C (R208). -/
  | anaC
  /-- 0xA2 ANA D (R208). -/
  | anaD
  /-- 0xA3 ANA E (R208). -/
  | anaE
  /-- 0xA4 ANA H (R208). -/
  | anaH
  /-- 0xA5 ANA L (R208). -/
  | anaL
  /-- 0xA6 ANA M (R209). -/
  | anaM
  /-- 0xA7 ANA A (R208). -/
  | anaA
  /-- 0xA8 XRA B (R210). -/
  | xraB
  /-- 0xA9 XRA C (R210). -/
  | xraC
  /-- 0xAA XRA D (R210). -/
  | xraD
  /-- 0xAB XRA E (R210). -/
  | xraE
  /-- 0xAC XRA H (R210). -/
  | xraH
  /-- 0xAD XRA L (R210). -/
  | xraL
  /-- 0xAE XRA M (R211). -/
  | xraM
  /-- 0xAF XRA A (R210). -/
  | xraA
  /-- 0xB0 ORA B (R212). -/
  | oraB
  /-- 0xB1 ORA C (R212). -/
  | oraC
  /-- 0xB2 ORA D (R212). -/
  | oraD
  /-- 0xB3 ORA E (R212). -/
  | oraE
  /-- 0xB4 ORA H (R212). -/
  | oraH
  /-- 0xB5 ORA L (R212). -/
  | oraL
  /-- 0xB6 ORA M (R213). -/
  | oraM
  /-- 0xB7 ORA A (R212). -/
  | oraA
  /-- 0xB8 CMP B (R214). -/
  | cmpB
  /-- 0xB9 CMP C (R214). -/
  | cmpC
  /-- 0xBA CMP D (R214). -/
  | cmpD
  /-- 0xBB CMP E (R214). -/
  | cmpE
  /-- 0xBC CMP H (R214). -/
  | cmpH
  /-- 0xBD CMP L (R214). -/
  | cmpL
  /-- 0xBE CMP M (R215). -/
  | cmpM
  /-- 0xBF CMP A (R214). -/
  | cmpA
  /-- 0xC0 RNZ (R250). -/
  | rnz
  /-- 0xC1 POP B (R262). -/
  | popB
  /-- 0xC2 JNZ a16 (R246). -/
  | jnz (a16 : Word)
  /-- 0xC3 JMP a16 (R245). -/
  | jmp (a16 : Word)
  /-- 0xC4 CNZ a16 (R248). -/
  | cnz (a16 : Word)
  /-- 0xC5 PUSH B (R260). -/
  | pushB
  /-- 0xC6 ADI d8 (R216). -/
  | adi (d8 : Byte)
  /-- 0xC7 RST 0 (R251). -/
  | rst0
  /-- 0xC8 RZ (R250). -/
  | rz
  /-- 0xC9 RET (R249). -/
  | ret
  /-- 0xCA JZ a16 (R246). -/
  | jz (a16 : Word)
  /-- 0xCC CZ a16 (R248). -/
  | cz (a16 : Word)
  /-- 0xCD CALL a16 (R247). -/
  | call (a16 : Word)
  /-- 0xCE ACI d8 (R217). -/
  | aci (d8 : Byte)
  /-- 0xCF RST 1 (R251). -/
  | rst1
  /-- 0xD0 RNC (R250). -/
  | rnc
  /-- 0xD1 POP D (R262). -/
  | popD
  /-- 0xD2 JNC a16 (R246). -/
  | jnc (a16 : Word)
  /-- 0xD3 OUT d8 (R267). -/
  | out (port : Byte)
  /-- 0xD4 CNC a16 (R248). -/
  | cnc (a16 : Word)
  /-- 0xD5 PUSH D (R260). -/
  | pushD
  /-- 0xD6 SUI d8 (R218). -/
  | sui (d8 : Byte)
  /-- 0xD7 RST 2 (R251). -/
  | rst2
  /-- 0xD8 RC (R250). -/
  | rc
  /-- 0xDA JC a16 (R246). -/
  | jc (a16 : Word)
  /-- 0xDB IN d8 (R266). -/
  | inp (port : Byte)
  /-- 0xDC CC a16 (R248). -/
  | cc (a16 : Word)
  /-- 0xDE SBI d8 (R219). -/
  | sbi (d8 : Byte)
  /-- 0xDF RST 3 (R251). -/
  | rst3
  /-- 0xE0 RPO (R250). -/
  | rpo
  /-- 0xE1 POP H (R262). -/
  | popH
  /-- 0xE2 JPO a16 (R246). -/
  | jpo (a16 : Word)
  /-- 0xE3 XTHL (R264). -/
  | xthl
  /-- 0xE4 CPO a16 (R248). -/
  | cpo (a16 : Word)
  /-- 0xE5 PUSH H (R260). -/
  | pushH
  /-- 0xE6 ANI d8 (R220). -/
  | ani (d8 : Byte)
  /-- 0xE7 RST 4 (R251). -/
  | rst4
  /-- 0xE8 RPE (R250). -/
  | rpe
  /-- 0xE9 PCHL (R252). -/
  | pchl
  /-- 0xEA JPE a16 (R246). -/
  | jpe (a16 : Word)
  /-- 0xEB XCHG (R192). -/
  | xchg
  /-- 0xEC CPE a16 (R248). -/
  | cpe (a16 : Word)
  /-- 0xEE XRI d8 (R221). -/
  | xri (d8 : Byte)
  /-- 0xEF RST 5 (R251). -/
  | rst5
  /-- 0xF0 RP (R250). -/
  | rp
  /-- 0xF1 POP PSW (R263). -/
  | popPsw
  /-- 0xF2 JP a16 (R246). -/
  | jp (a16 : Word)
  /-- 0xF3 DI (R269). -/
  | di
  /-- 0xF4 CP a16 (R248). -/
  | cp (a16 : Word)
  /-- 0xF5 PUSH PSW (R261). -/
  | pushPsw
  /-- 0xF6 ORI d8 (R222). -/
  | ori (d8 : Byte)
  /-- 0xF7 RST 6 (R251). -/
  | rst6
  /-- 0xF8 RM (R250). -/
  | rm
  /-- 0xF9 SPHL (R265). -/
  | sphl
  /-- 0xFA JM a16 (R246). -/
  | jm (a16 : Word)
  /-- 0xFB EI (R268). -/
  | ei
  /-- 0xFC CM a16 (R248). -/
  | cm (a16 : Word)
  /-- 0xFE CPI d8 (R223). -/
  | cpi (d8 : Byte)
  /-- 0xFF RST 7 (R251). -/
  | rst7
  deriving DecidableEq, Repr

end Sys2Proof
end

