-- ==== Sys2Proof/WellFormed.lean ====
section
/-! DEFINITION. Which terms of Instr are instructions of the machine. Every operand type admits exactly the values its encoding
admits (30_encoding.md R103), so the one check is on the byte a fatal decode carries (R104). -/

namespace Sys2Proof

/-- The 12 opcode values that are no instruction (R104). -/
def fatalOpcodes : List Byte :=
  [0x08#8, 0x10#8, 0x18#8, 0x20#8, 0x28#8, 0x30#8, 0x38#8, 0xCB#8, 0xD9#8, 0xDD#8, 0xED#8, 0xFD#8]

/-- The byte a `fatal` term carries is one of the 12 (R104). -/
def Instr.fatalByteOk : Instr → Bool
  | .fatal op => fatalOpcodes.contains op
  | _ => true

/-- A term that stands for bytes of the instruction set. -/
def Instr.wf (i : Instr) : Bool := i.fatalByteOk

end Sys2Proof
end

