-- ==== Sys2Proof/Decode.lean ====
section
/-! DEFINITION. The decoder (30_encoding.md R100 to R111), and after it the encoder. The decoder follows the spec's two tiers
(R105): the fixed table of R106, then the field-driven groups of R107 in their order; what no tier selects is `fatal` (R104). The
`Asm` functions turn the fields of a group into the constructor of that instruction; they are named as the assembler names it (R112). -/

namespace Sys2Proof

/-! ## Byte order and fields -/

/-- `{h, l}`: the word of a high and a low byte (R10, R72). -/
def wordOf (h l : Byte) : Word := h ++ l

/-- `v[15:8]` (R10). -/
def hiByte (v : Word) : Byte := v.extractLsb' 8 8

/-- `v[7:0]` (R10). -/
def loByte (v : Word) : Byte := v.extractLsb' 0 8

/-- Opcode bits 7:6 (R101). -/
def fieldF2 (op : Byte) : BitVec 2 := op.extractLsb' 6 2

/-- Opcode bits 5:3 (R101). -/
def fieldReg1 (op : Byte) : BitVec 3 := op.extractLsb' 3 3

/-- Opcode bits 5:4 (R101). -/
def fieldRp (op : Byte) : BitVec 2 := op.extractLsb' 4 2

/-- Opcode bits 3:0 (R101). -/
def fieldL4 (op : Byte) : BitVec 4 := op.extractLsb' 0 4

/-- Opcode bits 2:0 (R101). -/
def fieldReg2 (op : Byte) : BitVec 3 := op.extractLsb' 0 3

/-- The register index table of R30. -/
def Reg8.ofIndex (i : BitVec 3) : Reg8 :=
  match i.toNat with
  | 0 => .b
  | 1 => .c
  | 2 => .d
  | 3 => .e
  | 4 => .h
  | 5 => .l
  | 6 => .m
  | _ => .a

/-- The pair index table of R34. -/
def Pair.ofIndex (i : BitVec 2) : Pair :=
  match i.toNat with
  | 0 => .bc
  | 1 => .de
  | 2 => .hl
  | _ => .fourth

/-- The condition table of R42. -/
def Cond.ofIndex (i : BitVec 3) : Cond :=
  match i.toNat with
  | 0 => .nz
  | 1 => .z
  | 2 => .nc
  | 3 => .c
  | 4 => .po
  | 5 => .pe
  | 6 => .p
  | _ => .m

/-- The ALU operation table of R151. -/
def AluOp.ofIndex (i : BitVec 3) : AluOp :=
  match i.toNat with
  | 0 => .add
  | 1 => .adc
  | 2 => .sub
  | 3 => .sbb
  | 4 => .ana
  | 5 => .xra
  | 6 => .ora
  | _ => .cmp

/-! ## From fields to instructions -/

/-- `MOV d,s` (R107 group 3). The doubly-memory-indirect encoding is reserved for HLT (R110). -/
def Asm.mov : Reg8 → Reg8 → Instr
  | .b, .b => .movBB
  | .b, .c => .movBC
  | .b, .d => .movBD
  | .b, .e => .movBE
  | .b, .h => .movBH
  | .b, .l => .movBL
  | .b, .m => .movBM
  | .b, .a => .movBA
  | .c, .b => .movCB
  | .c, .c => .movCC
  | .c, .d => .movCD
  | .c, .e => .movCE
  | .c, .h => .movCH
  | .c, .l => .movCL
  | .c, .m => .movCM
  | .c, .a => .movCA
  | .d, .b => .movDB
  | .d, .c => .movDC
  | .d, .d => .movDD
  | .d, .e => .movDE
  | .d, .h => .movDH
  | .d, .l => .movDL
  | .d, .m => .movDM
  | .d, .a => .movDA
  | .e, .b => .movEB
  | .e, .c => .movEC
  | .e, .d => .movED
  | .e, .e => .movEE
  | .e, .h => .movEH
  | .e, .l => .movEL
  | .e, .m => .movEM
  | .e, .a => .movEA
  | .h, .b => .movHB
  | .h, .c => .movHC
  | .h, .d => .movHD
  | .h, .e => .movHE
  | .h, .h => .movHH
  | .h, .l => .movHL
  | .h, .m => .movHM
  | .h, .a => .movHA
  | .l, .b => .movLB
  | .l, .c => .movLC
  | .l, .d => .movLD
  | .l, .e => .movLE
  | .l, .h => .movLH
  | .l, .l => .movLL
  | .l, .m => .movLM
  | .l, .a => .movLA
  | .m, .b => .movMB
  | .m, .c => .movMC
  | .m, .d => .movMD
  | .m, .e => .movME
  | .m, .h => .movMH
  | .m, .l => .movML
  | .m, .m => .hlt
  | .m, .a => .movMA
  | .a, .b => .movAB
  | .a, .c => .movAC
  | .a, .d => .movAD
  | .a, .e => .movAE
  | .a, .h => .movAH
  | .a, .l => .movAL
  | .a, .m => .movAM
  | .a, .a => .movAA

/-- The ALU with a register or memory operand (R107 group 4, R151). -/
def Asm.aluReg : AluOp → Reg8 → Instr
  | .add, .b => .addB
  | .add, .c => .addC
  | .add, .d => .addD
  | .add, .e => .addE
  | .add, .h => .addH
  | .add, .l => .addL
  | .add, .m => .addM
  | .add, .a => .addA
  | .adc, .b => .adcB
  | .adc, .c => .adcC
  | .adc, .d => .adcD
  | .adc, .e => .adcE
  | .adc, .h => .adcH
  | .adc, .l => .adcL
  | .adc, .m => .adcM
  | .adc, .a => .adcA
  | .sub, .b => .subB
  | .sub, .c => .subC
  | .sub, .d => .subD
  | .sub, .e => .subE
  | .sub, .h => .subH
  | .sub, .l => .subL
  | .sub, .m => .subM
  | .sub, .a => .subA
  | .sbb, .b => .sbbB
  | .sbb, .c => .sbbC
  | .sbb, .d => .sbbD
  | .sbb, .e => .sbbE
  | .sbb, .h => .sbbH
  | .sbb, .l => .sbbL
  | .sbb, .m => .sbbM
  | .sbb, .a => .sbbA
  | .ana, .b => .anaB
  | .ana, .c => .anaC
  | .ana, .d => .anaD
  | .ana, .e => .anaE
  | .ana, .h => .anaH
  | .ana, .l => .anaL
  | .ana, .m => .anaM
  | .ana, .a => .anaA
  | .xra, .b => .xraB
  | .xra, .c => .xraC
  | .xra, .d => .xraD
  | .xra, .e => .xraE
  | .xra, .h => .xraH
  | .xra, .l => .xraL
  | .xra, .m => .xraM
  | .xra, .a => .xraA
  | .ora, .b => .oraB
  | .ora, .c => .oraC
  | .ora, .d => .oraD
  | .ora, .e => .oraE
  | .ora, .h => .oraH
  | .ora, .l => .oraL
  | .ora, .m => .oraM
  | .ora, .a => .oraA
  | .cmp, .b => .cmpB
  | .cmp, .c => .cmpC
  | .cmp, .d => .cmpD
  | .cmp, .e => .cmpE
  | .cmp, .h => .cmpH
  | .cmp, .l => .cmpL
  | .cmp, .m => .cmpM
  | .cmp, .a => .cmpA

/-- The ALU with an immediate operand (R107 group 5, R151). -/
def Asm.aluImm : AluOp → Byte → Instr
  | .add, d8 => .adi d8
  | .adc, d8 => .aci d8
  | .sub, d8 => .sui d8
  | .sbb, d8 => .sbi d8
  | .ana, d8 => .ani d8
  | .xra, d8 => .xri d8
  | .ora, d8 => .ori d8
  | .cmp, d8 => .cpi d8

/-- `INR r` (R107 group 2). -/
def Asm.inr : Reg8 → Instr
  | .b => .inrB
  | .c => .inrC
  | .d => .inrD
  | .e => .inrE
  | .h => .inrH
  | .l => .inrL
  | .m => .inrM
  | .a => .inrA

/-- `DCR r` (R107 group 2). -/
def Asm.dcr : Reg8 → Instr
  | .b => .dcrB
  | .c => .dcrC
  | .d => .dcrD
  | .e => .dcrE
  | .h => .dcrH
  | .l => .dcrL
  | .m => .dcrM
  | .a => .dcrA

/-- `MVI r,d8` (R107 group 2). -/
def Asm.mvi : Reg8 → Byte → Instr
  | .b, d8 => .mviB d8
  | .c, d8 => .mviC d8
  | .d, d8 => .mviD d8
  | .e, d8 => .mviE d8
  | .h, d8 => .mviH d8
  | .l, d8 => .mviL d8
  | .m, d8 => .mviM d8
  | .a, d8 => .mviA d8

/-- `LXI rp,d16` (R107 group 1). -/
def Asm.lxi : Pair → Word → Instr
  | .bc, d16 => .lxiB d16
  | .de, d16 => .lxiD d16
  | .hl, d16 => .lxiH d16
  | .fourth, d16 => .lxiSp d16

/-- `INX rp` (R107 group 1). -/
def Asm.inx : Pair → Instr
  | .bc => .inxB
  | .de => .inxD
  | .hl => .inxH
  | .fourth => .inxSp

/-- `DAD rp` (R107 group 1). -/
def Asm.dad : Pair → Instr
  | .bc => .dadB
  | .de => .dadD
  | .hl => .dadH
  | .fourth => .dadSp

/-- `DCX rp` (R107 group 1). -/
def Asm.dcx : Pair → Instr
  | .bc => .dcxB
  | .de => .dcxD
  | .hl => .dcxH
  | .fourth => .dcxSp

/-- `STAX rp`, rp 0 or 1 (R107 group 1); rp 2 and 3 are taken by the fixed table (R105). -/
def Asm.stax : Pair → Option Instr
  | .bc => some .staxB
  | .de => some .staxD
  | .hl => none
  | .fourth => none

/-- `LDAX rp`, rp 0 or 1 (R107 group 1); rp 2 and 3 are taken by the fixed table (R105). -/
def Asm.ldax : Pair → Option Instr
  | .bc => some .ldaxB
  | .de => some .ldaxD
  | .hl => none
  | .fourth => none

/-- `POP rp`, rp 3 being PSW (R107 group 8). -/
def Asm.pop : Pair → Instr
  | .bc => .popB
  | .de => .popD
  | .hl => .popH
  | .fourth => .popPsw

/-- `PUSH rp`, rp 3 being PSW (R107 group 8). -/
def Asm.push : Pair → Instr
  | .bc => .pushB
  | .de => .pushD
  | .hl => .pushH
  | .fourth => .pushPsw

/-- `RST n` (R107 group 6). -/
def Asm.rst (n : BitVec 3) : Instr :=
  match n.toNat with
  | 0 => .rst0
  | 1 => .rst1
  | 2 => .rst2
  | 3 => .rst3
  | 4 => .rst4
  | 5 => .rst5
  | 6 => .rst6
  | _ => .rst7

/-- `Rcc` (R107 group 7). -/
def Asm.rcc : Cond → Instr
  | .nz => .rnz
  | .z => .rz
  | .nc => .rnc
  | .c => .rc
  | .po => .rpo
  | .pe => .rpe
  | .p => .rp
  | .m => .rm

/-- `Jcc a16` (R107 group 7). -/
def Asm.jcc : Cond → Word → Instr
  | .nz, a16 => .jnz a16
  | .z, a16 => .jz a16
  | .nc, a16 => .jnc a16
  | .c, a16 => .jc a16
  | .po, a16 => .jpo a16
  | .pe, a16 => .jpe a16
  | .p, a16 => .jp a16
  | .m, a16 => .jm a16

/-- `Ccc a16` (R107 group 7). -/
def Asm.ccc : Cond → Word → Instr
  | .nz, a16 => .cnz a16
  | .z, a16 => .cz a16
  | .nc, a16 => .cnc a16
  | .c, a16 => .cc a16
  | .po, a16 => .cpo a16
  | .pe, a16 => .cpe a16
  | .p, a16 => .cp a16
  | .m, a16 => .cm a16

/-! ## The two tiers -/

/-- Tier (a): the fixed table of R106. `b2` and `b3` are the bytes after the opcode (R102, R103). -/
def fixedTable (op b2 b3 : Byte) : Option Instr :=
  match op.toNat with
  | 0x00 => some .nop
  | 0x07 => some .rlc
  | 0x0F => some .rrc
  | 0x17 => some .ral
  | 0x1F => some .rar
  | 0x22 => some (.shld (wordOf b3 b2))
  | 0x27 => some .daa
  | 0x2A => some (.lhld (wordOf b3 b2))
  | 0x2F => some .cma
  | 0x32 => some (.sta (wordOf b3 b2))
  | 0x37 => some .stc
  | 0x3A => some (.lda (wordOf b3 b2))
  | 0x3F => some .cmc
  | 0x76 => some .hlt
  | 0xC3 => some (.jmp (wordOf b3 b2))
  | 0xC9 => some .ret
  | 0xCD => some (.call (wordOf b3 b2))
  | 0xD3 => some (.out b2)
  | 0xDB => some (.inp b2)
  | 0xE3 => some .xthl
  | 0xE9 => some .pchl
  | 0xEB => some .xchg
  | 0xF3 => some .di
  | 0xF9 => some .sphl
  | 0xFB => some .ei
  | _ => none

/-- Tier (b): the field-driven groups of R107, in the order they are tried. -/
def fieldGroups (op b2 b3 : Byte) : Option Instr :=
  let f2 := fieldF2 op
  let reg1 := fieldReg1 op
  let reg2 := fieldReg2 op
  let rp := Pair.ofIndex (fieldRp op)
  let l4 := fieldL4 op
  let d16 := wordOf b3 b2
  if f2 = 0 ∧ l4 = 0x1#4 then some (Asm.lxi rp d16)
  else if f2 = 0 ∧ l4 = 0x2#4 then Asm.stax rp
  else if f2 = 0 ∧ l4 = 0x3#4 then some (Asm.inx rp)
  else if f2 = 0 ∧ l4 = 0x9#4 then some (Asm.dad rp)
  else if f2 = 0 ∧ l4 = 0xA#4 then Asm.ldax rp
  else if f2 = 0 ∧ l4 = 0xB#4 then some (Asm.dcx rp)
  else if f2 = 0 ∧ reg2 = 4 then some (Asm.inr (Reg8.ofIndex reg1))
  else if f2 = 0 ∧ reg2 = 5 then some (Asm.dcr (Reg8.ofIndex reg1))
  else if f2 = 0 ∧ reg2 = 6 then some (Asm.mvi (Reg8.ofIndex reg1) b2)
  else if f2 = 1 then some (Asm.mov (Reg8.ofIndex reg1) (Reg8.ofIndex reg2))
  else if f2 = 2 then some (Asm.aluReg (AluOp.ofIndex reg1) (Reg8.ofIndex reg2))
  else if f2 = 3 ∧ reg2 = 6 then some (Asm.aluImm (AluOp.ofIndex reg1) b2)
  else if f2 = 3 ∧ reg2 = 7 then some (Asm.rst reg1)
  else if f2 = 3 ∧ reg2 = 0 then some (Asm.rcc (Cond.ofIndex reg1))
  else if f2 = 3 ∧ reg2 = 2 then some (Asm.jcc (Cond.ofIndex reg1) d16)
  else if f2 = 3 ∧ reg2 = 4 then some (Asm.ccc (Cond.ofIndex reg1) d16)
  else if f2 = 3 ∧ l4 = 0x1#4 then some (Asm.pop rp)
  else if f2 = 3 ∧ l4 = 0x5#4 then some (Asm.push rp)
  else none

/-- The instruction of an opcode byte and the two bytes after it (R105): the fixed table first, then the groups, else `fatal`. -/
def decodeInstr (op b2 b3 : Byte) : Instr :=
  match fixedTable op b2 b3 with
  | some i => i
  | none =>
    match fieldGroups op b2 b3 with
    | some i => i
    | none => .fatal op

/-! ## Lengths, and decoding a byte list -/

/-- The length in bytes, a function of the opcode byte alone (R100, R102, R111). A fatal byte is read as one byte. -/
def opLength (op : Byte) : Nat :=
  let f2 := fieldF2 op
  let reg2 := fieldReg2 op
  if op = 0x22#8 ∨ op = 0x2A#8 ∨ op = 0x32#8 ∨ op = 0x3A#8 ∨ op = 0xC3#8 ∨ op = 0xCD#8 then 3
  else if op = 0xD3#8 ∨ op = 0xDB#8 then 2
  else if f2 = 0 ∧ fieldL4 op = 0x1#4 then 3
  else if f2 = 3 ∧ (reg2 = 2 ∨ reg2 = 4) then 3
  else if (f2 = 0 ∨ f2 = 3) ∧ reg2 = 6 then 2
  else 1

/-- Why a byte list is not an instruction: it ends too early. (A whole first byte always selects something: R136.) -/
inductive DecodeError where
  /-- No byte at all. -/
  | empty
  /-- The opcode byte calls for more bytes than there are. -/
  | truncated (op : Byte)
  deriving DecidableEq, Repr

/-- Decode the first instruction of a byte list, with what is left of the list. -/
def decode : List Byte → Except DecodeError (Instr × List Byte)
  | [] => .error .empty
  | op :: rest =>
    match opLength op, rest with
    | 3, b2 :: b3 :: rest => .ok (decodeInstr op b2 b3, rest)
    | 2, b2 :: rest => .ok (decodeInstr op b2 0, rest)
    | 1, rest => .ok (decodeInstr op 0 0, rest)
    | _, _ => .error (.truncated op)

/-- Byte `k` of an instruction whose bits are `w`, the first byte the least significant (the opcode table's numbering). -/
def tableByte (w k : Nat) : Byte := BitVec.ofNat 8 (w / 256 ^ k)

/-- What the decoder reads from an instruction of `nbits` bits with value `w`, every bit above `nbits` zero. -/
def decodeTableWord (nbits w : Nat) : Option Instr :=
  let v := w % 2 ^ nbits
  match decode [tableByte v 0, tableByte v 1, tableByte v 2] with
  | .ok (i, _) => some i
  | .error _ => none

/-! ## The encoder -/

/-- The opcode byte of an instruction, written out from the opcode map of R108. -/
def Instr.opcode : Instr → Byte
  | .nop => 0x00#8
  | .lxiB _ => 0x01#8
  | .staxB => 0x02#8
  | .inxB => 0x03#8
  | .inrB => 0x04#8
  | .dcrB => 0x05#8
  | .mviB _ => 0x06#8
  | .rlc => 0x07#8
  | .dadB => 0x09#8
  | .ldaxB => 0x0A#8
  | .dcxB => 0x0B#8
  | .inrC => 0x0C#8
  | .dcrC => 0x0D#8
  | .mviC _ => 0x0E#8
  | .rrc => 0x0F#8
  | .lxiD _ => 0x11#8
  | .staxD => 0x12#8
  | .inxD => 0x13#8
  | .inrD => 0x14#8
  | .dcrD => 0x15#8
  | .mviD _ => 0x16#8
  | .ral => 0x17#8
  | .dadD => 0x19#8
  | .ldaxD => 0x1A#8
  | .dcxD => 0x1B#8
  | .inrE => 0x1C#8
  | .dcrE => 0x1D#8
  | .mviE _ => 0x1E#8
  | .rar => 0x1F#8
  | .lxiH _ => 0x21#8
  | .shld _ => 0x22#8
  | .inxH => 0x23#8
  | .inrH => 0x24#8
  | .dcrH => 0x25#8
  | .mviH _ => 0x26#8
  | .daa => 0x27#8
  | .dadH => 0x29#8
  | .lhld _ => 0x2A#8
  | .dcxH => 0x2B#8
  | .inrL => 0x2C#8
  | .dcrL => 0x2D#8
  | .mviL _ => 0x2E#8
  | .cma => 0x2F#8
  | .lxiSp _ => 0x31#8
  | .sta _ => 0x32#8
  | .inxSp => 0x33#8
  | .inrM => 0x34#8
  | .dcrM => 0x35#8
  | .mviM _ => 0x36#8
  | .stc => 0x37#8
  | .dadSp => 0x39#8
  | .lda _ => 0x3A#8
  | .dcxSp => 0x3B#8
  | .inrA => 0x3C#8
  | .dcrA => 0x3D#8
  | .mviA _ => 0x3E#8
  | .cmc => 0x3F#8
  | .movBB => 0x40#8
  | .movBC => 0x41#8
  | .movBD => 0x42#8
  | .movBE => 0x43#8
  | .movBH => 0x44#8
  | .movBL => 0x45#8
  | .movBM => 0x46#8
  | .movBA => 0x47#8
  | .movCB => 0x48#8
  | .movCC => 0x49#8
  | .movCD => 0x4A#8
  | .movCE => 0x4B#8
  | .movCH => 0x4C#8
  | .movCL => 0x4D#8
  | .movCM => 0x4E#8
  | .movCA => 0x4F#8
  | .movDB => 0x50#8
  | .movDC => 0x51#8
  | .movDD => 0x52#8
  | .movDE => 0x53#8
  | .movDH => 0x54#8
  | .movDL => 0x55#8
  | .movDM => 0x56#8
  | .movDA => 0x57#8
  | .movEB => 0x58#8
  | .movEC => 0x59#8
  | .movED => 0x5A#8
  | .movEE => 0x5B#8
  | .movEH => 0x5C#8
  | .movEL => 0x5D#8
  | .movEM => 0x5E#8
  | .movEA => 0x5F#8
  | .movHB => 0x60#8
  | .movHC => 0x61#8
  | .movHD => 0x62#8
  | .movHE => 0x63#8
  | .movHH => 0x64#8
  | .movHL => 0x65#8
  | .movHM => 0x66#8
  | .movHA => 0x67#8
  | .movLB => 0x68#8
  | .movLC => 0x69#8
  | .movLD => 0x6A#8
  | .movLE => 0x6B#8
  | .movLH => 0x6C#8
  | .movLL => 0x6D#8
  | .movLM => 0x6E#8
  | .movLA => 0x6F#8
  | .movMB => 0x70#8
  | .movMC => 0x71#8
  | .movMD => 0x72#8
  | .movME => 0x73#8
  | .movMH => 0x74#8
  | .movML => 0x75#8
  | .hlt => 0x76#8
  | .movMA => 0x77#8
  | .movAB => 0x78#8
  | .movAC => 0x79#8
  | .movAD => 0x7A#8
  | .movAE => 0x7B#8
  | .movAH => 0x7C#8
  | .movAL => 0x7D#8
  | .movAM => 0x7E#8
  | .movAA => 0x7F#8
  | .addB => 0x80#8
  | .addC => 0x81#8
  | .addD => 0x82#8
  | .addE => 0x83#8
  | .addH => 0x84#8
  | .addL => 0x85#8
  | .addM => 0x86#8
  | .addA => 0x87#8
  | .adcB => 0x88#8
  | .adcC => 0x89#8
  | .adcD => 0x8A#8
  | .adcE => 0x8B#8
  | .adcH => 0x8C#8
  | .adcL => 0x8D#8
  | .adcM => 0x8E#8
  | .adcA => 0x8F#8
  | .subB => 0x90#8
  | .subC => 0x91#8
  | .subD => 0x92#8
  | .subE => 0x93#8
  | .subH => 0x94#8
  | .subL => 0x95#8
  | .subM => 0x96#8
  | .subA => 0x97#8
  | .sbbB => 0x98#8
  | .sbbC => 0x99#8
  | .sbbD => 0x9A#8
  | .sbbE => 0x9B#8
  | .sbbH => 0x9C#8
  | .sbbL => 0x9D#8
  | .sbbM => 0x9E#8
  | .sbbA => 0x9F#8
  | .anaB => 0xA0#8
  | .anaC => 0xA1#8
  | .anaD => 0xA2#8
  | .anaE => 0xA3#8
  | .anaH => 0xA4#8
  | .anaL => 0xA5#8
  | .anaM => 0xA6#8
  | .anaA => 0xA7#8
  | .xraB => 0xA8#8
  | .xraC => 0xA9#8
  | .xraD => 0xAA#8
  | .xraE => 0xAB#8
  | .xraH => 0xAC#8
  | .xraL => 0xAD#8
  | .xraM => 0xAE#8
  | .xraA => 0xAF#8
  | .oraB => 0xB0#8
  | .oraC => 0xB1#8
  | .oraD => 0xB2#8
  | .oraE => 0xB3#8
  | .oraH => 0xB4#8
  | .oraL => 0xB5#8
  | .oraM => 0xB6#8
  | .oraA => 0xB7#8
  | .cmpB => 0xB8#8
  | .cmpC => 0xB9#8
  | .cmpD => 0xBA#8
  | .cmpE => 0xBB#8
  | .cmpH => 0xBC#8
  | .cmpL => 0xBD#8
  | .cmpM => 0xBE#8
  | .cmpA => 0xBF#8
  | .rnz => 0xC0#8
  | .popB => 0xC1#8
  | .jnz _ => 0xC2#8
  | .jmp _ => 0xC3#8
  | .cnz _ => 0xC4#8
  | .pushB => 0xC5#8
  | .adi _ => 0xC6#8
  | .rst0 => 0xC7#8
  | .rz => 0xC8#8
  | .ret => 0xC9#8
  | .jz _ => 0xCA#8
  | .cz _ => 0xCC#8
  | .call _ => 0xCD#8
  | .aci _ => 0xCE#8
  | .rst1 => 0xCF#8
  | .rnc => 0xD0#8
  | .popD => 0xD1#8
  | .jnc _ => 0xD2#8
  | .out _ => 0xD3#8
  | .cnc _ => 0xD4#8
  | .pushD => 0xD5#8
  | .sui _ => 0xD6#8
  | .rst2 => 0xD7#8
  | .rc => 0xD8#8
  | .jc _ => 0xDA#8
  | .inp _ => 0xDB#8
  | .cc _ => 0xDC#8
  | .sbi _ => 0xDE#8
  | .rst3 => 0xDF#8
  | .rpo => 0xE0#8
  | .popH => 0xE1#8
  | .jpo _ => 0xE2#8
  | .xthl => 0xE3#8
  | .cpo _ => 0xE4#8
  | .pushH => 0xE5#8
  | .ani _ => 0xE6#8
  | .rst4 => 0xE7#8
  | .rpe => 0xE8#8
  | .pchl => 0xE9#8
  | .jpe _ => 0xEA#8
  | .xchg => 0xEB#8
  | .cpe _ => 0xEC#8
  | .xri _ => 0xEE#8
  | .rst5 => 0xEF#8
  | .rp => 0xF0#8
  | .popPsw => 0xF1#8
  | .jp _ => 0xF2#8
  | .di => 0xF3#8
  | .cp _ => 0xF4#8
  | .pushPsw => 0xF5#8
  | .ori _ => 0xF6#8
  | .rst6 => 0xF7#8
  | .rm => 0xF8#8
  | .sphl => 0xF9#8
  | .jm _ => 0xFA#8
  | .ei => 0xFB#8
  | .cm _ => 0xFC#8
  | .cpi _ => 0xFE#8
  | .rst7 => 0xFF#8
  | .fatal op => op

/-- The two bytes of a 16-bit operand, low byte first (R73, R102). -/
def wordBytes (v : Word) : List Byte := [loByte v, hiByte v]

/-- The bytes after the opcode (R102, R103). -/
def Instr.operandBytes : Instr → List Byte
  | .lxiB d16 => wordBytes d16
  | .mviB d8 => [d8]
  | .mviC d8 => [d8]
  | .lxiD d16 => wordBytes d16
  | .mviD d8 => [d8]
  | .mviE d8 => [d8]
  | .lxiH d16 => wordBytes d16
  | .shld a16 => wordBytes a16
  | .mviH d8 => [d8]
  | .lhld a16 => wordBytes a16
  | .mviL d8 => [d8]
  | .lxiSp d16 => wordBytes d16
  | .sta a16 => wordBytes a16
  | .mviM d8 => [d8]
  | .lda a16 => wordBytes a16
  | .mviA d8 => [d8]
  | .jnz a16 => wordBytes a16
  | .jmp a16 => wordBytes a16
  | .cnz a16 => wordBytes a16
  | .adi d8 => [d8]
  | .jz a16 => wordBytes a16
  | .cz a16 => wordBytes a16
  | .call a16 => wordBytes a16
  | .aci d8 => [d8]
  | .jnc a16 => wordBytes a16
  | .out port => [port]
  | .cnc a16 => wordBytes a16
  | .sui d8 => [d8]
  | .jc a16 => wordBytes a16
  | .inp port => [port]
  | .cc a16 => wordBytes a16
  | .sbi d8 => [d8]
  | .jpo a16 => wordBytes a16
  | .cpo a16 => wordBytes a16
  | .ani d8 => [d8]
  | .jpe a16 => wordBytes a16
  | .cpe a16 => wordBytes a16
  | .xri d8 => [d8]
  | .jp a16 => wordBytes a16
  | .cp a16 => wordBytes a16
  | .ori d8 => [d8]
  | .jm a16 => wordBytes a16
  | .cm a16 => wordBytes a16
  | .cpi d8 => [d8]
  | _ => []

/-- The bytes of a well-formed instruction (R102). -/
def encode (i : Instr) : List Byte := i.opcode :: i.operandBytes

/-- The length of an instruction in bytes (R102). -/
def Instr.length (i : Instr) : Nat := opLength i.opcode

/-- How far the program counter advances past a fetched instruction (R132); a fatal encoding never advances it (R102, R135). -/
def Instr.pcAdvance (i : Instr) : Nat :=
  match i with
  | .fatal _ => 0
  | _ => i.length

/-- The condition of a conditional jump, call or return (R42, R246, R248, R250). -/
def Instr.condition : Instr → Option Cond
  | .rnz => some .nz
  | .jnz _ => some .nz
  | .cnz _ => some .nz
  | .rz => some .z
  | .jz _ => some .z
  | .cz _ => some .z
  | .rnc => some .nc
  | .jnc _ => some .nc
  | .cnc _ => some .nc
  | .rc => some .c
  | .jc _ => some .c
  | .cc _ => some .c
  | .rpo => some .po
  | .jpo _ => some .po
  | .cpo _ => some .po
  | .rpe => some .pe
  | .jpe _ => some .pe
  | .cpe _ => some .pe
  | .rp => some .p
  | .jp _ => some .p
  | .cp _ => some .p
  | .rm => some .m
  | .jm _ => some .m
  | .cm _ => some .m
  | _ => none

end Sys2Proof
end

