-- ==== Sys2Proof/Machine/Flags.lean ====
section
/-! DEFINITION. The flag register's bits (10_state.md R39, R41) and the ALU and flag engine as pure functions of their operands
(41_alu_flags.md R150 to R168). -/

namespace Sys2Proof.Machine

/-! ## The bits of F -/

/-- `f` with bit `i` set to `v`. -/
def setBit (f : Byte) (i : Nat) (v : Bool) : Byte :=
  if v then f ||| (1#8 <<< i) else f &&& ~~~(1#8 <<< i)

/-- F[0], carry (R39). -/
def flagCY (f : Byte) : Bool := f.getLsbD 0

/-- F[2], parity (R39). -/
def flagP (f : Byte) : Bool := f.getLsbD 2

/-- F[4], auxiliary carry (R39). -/
def flagAC (f : Byte) : Bool := f.getLsbD 4

/-- F[6], zero (R39). -/
def flagZ (f : Byte) : Bool := f.getLsbD 6

/-- F[7], sign (R39). -/
def flagS (f : Byte) : Bool := f.getLsbD 7

/-- `F.CY <- v`, every other bit kept (R41). -/
def withCY (f : Byte) (v : Bool) : Byte := setBit f 0 v

/-- ForceReserved (R35, C1): bits 5 and 3 become 0, bit 1 becomes 1. -/
def forceReserved (f : Byte) : Byte := (f &&& 0b11010111#8) ||| 0b00000010#8

/-- The condition table (R42). -/
def condHolds (k : Cond) (f : Byte) : Bool :=
  match k with
  | .nz => !flagZ f
  | .z => flagZ f
  | .nc => !flagCY f
  | .c => flagCY f
  | .po => !flagP f
  | .pe => flagP f
  | .p => !flagS f
  | .m => flagS f

/-! ## The engine -/

/-- What the ALU returns: a result and the five flags (R150). -/
structure AluOut where
  result : Byte
  cy : Bool
  ac : Bool
  z : Bool
  s : Bool
  p : Bool
  deriving DecidableEq, Repr

/-- The low nibble of a byte (R10). -/
def lowNibble (v : Byte) : Nat := v.toNat % 16

/-- The high nibble of a byte (R10). -/
def highNibble (v : Byte) : Nat := v.toNat / 16

/-- The number of 1 bits in a byte (R154). -/
def popCount (v : Byte) : Nat := ((List.range 8).map fun i => (v.getLsbD i).toNat).sum

/-- The parity flag: an even number of 1 bits (R154, C11). -/
def parityEven (v : Byte) : Bool := popCount v % 2 == 0

/-- A result with its carries, and FlagsOf(result) (R152 to R155). -/
def aluOut (result : Byte) (cy ac : Bool) : AluOut :=
  { result, cy, ac, z := result == 0, s := result.getLsbD 7, p := parityEven result }

/-- Add and add-with-carry (R156). -/
def aluAdd (a b : Byte) (cin : Bool) : AluOut :=
  let t := a.toNat + b.toNat + cin.toNat
  aluOut (BitVec.ofNat 8 t) (decide (t > 255)) (decide (lowNibble a + lowNibble b + cin.toNat > 15))

/-- Subtract and subtract-with-borrow, AC being the borrow out of the low nibble (R157, D5). -/
def aluSub (a b : Byte) (cin : Bool) : AluOut :=
  aluOut (a - b - BitVec.ofNat 8 cin.toNat) (decide (b.toNat + cin.toNat > a.toNat))
    (decide (lowNibble a < lowNibble b + cin.toNat))

/-- And (R158). -/
def aluAnd (a b : Byte) (trackAc : Bool) : AluOut :=
  aluOut (a &&& b) false (trackAc && (a.getLsbD 3 || b.getLsbD 3))

/-- Exclusive or (R159). -/
def aluXor (a b : Byte) : AluOut := aluOut (a ^^^ b) false false

/-- Or (R159). -/
def aluOr (a b : Byte) : AluOut := aluOut (a ||| b) false false

/-- The eight operations as `reg1` selects them, with the incoming carry each one reads (R151, R160, R161). -/
def alu (op : AluOp) (a b : Byte) (cy trackAc : Bool) : AluOut :=
  match op with
  | .add => aluAdd a b false
  | .adc => aluAdd a b cy
  | .sub => aluSub a b false
  | .sbb => aluSub a b cy
  | .ana => aluAnd a b trackAc
  | .xra => aluXor a b
  | .ora => aluOr a b
  | .cmp => aluSub a b false

/-- Does the accumulator receive the result? Every operation but compare (R160, R162). -/
def writesA (op : AluOp) : Bool :=
  match op with
  | .cmp => false
  | _ => true

/-- Write AC, Z, S and P into F; CY and the reserved bits keep their values (R163, R164). -/
def writeFlags4 (f : Byte) (r : AluOut) : Byte :=
  setBit (setBit (setBit (setBit f 4 r.ac) 6 r.z) 7 r.s) 2 r.p

/-- Write all five flags into F; the reserved bits keep their values (R162). -/
def writeFlags5 (f : Byte) (r : AluOut) : Byte := withCY (writeFlags4 f r) r.cy

/-- The increment of a byte (R163). -/
def inc8 (v : Byte) : AluOut := aluAdd v 1 false

/-- The decrement of a byte (R164). -/
def dec8 (v : Byte) : AluOut := aluSub v 1 false

/-- The 16-bit add: the sum modulo 2^16 and its carry (R165). -/
def add16 (x y : Word) : Word × Bool :=
  let t := x.toNat + y.toNat
  (BitVec.ofNat 16 t, decide (t > 0xFFFF))

/-- One adjustment of `daa`: add through the ALU, a set CY staying set (R166). -/
def daaAdd (addend : Byte) (af : Byte × Byte) : Byte × Byte :=
  let r := aluAdd af.1 addend false
  (r.result, writeFlags5 af.2 { r with cy := flagCY af.2 || r.cy })

/-- Decimal adjust of A and F: the low-nibble step, then the high-nibble step on what the first left (R166, R167, D9). -/
def daa (a f : Byte) : Byte × Byte :=
  let low := if lowNibble a > 9 ∨ flagAC f = true then daaAdd 0x06#8 (a, f) else (a, f)
  if highNibble low.1 > 9 ∨ flagCY low.2 = true then daaAdd 0x60#8 low else low

/-! ## Rotates (44_rotate_flag.md) -/

/-- Shift A left with `x` into bit 0 (R235, R237). -/
def shiftLeftIn (v : Byte) (x : Bool) : Byte := BitVec.ofNat 8 (v.toNat % 128 * 2 + x.toNat)

/-- Shift A right with `x` into bit 7 (R236, R238). -/
def shiftRightIn (v : Byte) (x : Bool) : Byte := BitVec.ofNat 8 (x.toNat * 128 + v.toNat / 2)

end Sys2Proof.Machine
end

