-- ==== Sys2Proof/Config.lean ====
section
/-! DEFINITION. The parameters of the block (00_scope.md R8, 10_state.md R52). Those a program's effect depends on are plain data,
held in State and written by no instruction; the open ones that only the interface sees have no body. -/

namespace Sys2Proof

/-- The configuration of R8 that an instruction's effect reads. It does not change during a run (R52). -/
structure Config where
  /-- The write policy is on (R77). -/
  writeProtectEnabled : Bool
  /-- Writes strictly below this address are rejected while the policy is on (R77, D21). -/
  writeProtectLimit : Word
  /-- ANA tracks AC (R158, D6). -/
  anaTracksAc : Bool
  /-- ANI tracks AC (R158, D6). -/
  aniTracksAc : Bool
  deriving DecidableEq, Repr

/-- The defaults of R8. The limit is `OPEN` there; DESIGN CHOICE (log 1): 0x0000, unread while the policy is off. -/
def Config.default : Config :=
  { writeProtectEnabled := false, writeProtectLimit := 0x0000#16, anaTracksAc := true, aniTracksAc := false }

/-- FREE VALUE (R86, log 2): what the host answers to the `n`-th port read, which asks for port `p`. No body. -/
opaque Config.portAnswer (n : Nat) (p : Byte) : Byte

/-- OPEN parameter (R8, R134, log 5): the cycle units of an executed instruction, by opcode and branch outcome. No body. -/
opaque Config.cycleCost (op : Byte) (taken : Bool) : Nat

/-- OPEN parameter (R8, R315, R357, log 5): the cycle units of an idle halted step. No body. -/
opaque Config.haltIdleCycles : Nat

/-- The cycle units of a fatal decode: 0 (R8, D17). -/
def Config.fatalCycles : Nat := 0

end Sys2Proof
end

