-- ==== Sys2Proof/Machine/State.lean ====
section
/-! DEFINITION. Everything the machine holds (10_state.md R30 to R51, and R52's configuration), as plain data, and its value at
creation (R55). The block has no fault beyond the fatal decode, whose whole effect the spec gives as a next state. -/

namespace Sys2Proof.Machine

/-- The one-entry interrupt latch (R43). While `latched` is false its bytes are unobservable (R45). -/
structure Latch where
  latched : Bool
  opcode : Byte
  data1 : Byte
  data2 : Byte
  deriving DecidableEq, Repr

/-- Why `running` became false (R50). -/
inductive StopInfo where
  | none
  | fatalOpcode (addr : Word) (opcode : Byte)
  | hostStop
  deriving DecidableEq, Repr

/-- What the block issues to the host during a step (R6): it asks for a port's value, sends a value to a port, or reports a write
that the policy rejected (R77). -/
inductive HostEvent where
  | portRead (port : Byte)
  | portWrite (port value : Byte)
  | rejectedWrite (addr : Word) (value : Byte)
  deriving DecidableEq, Repr

/-- Memory: the bytes that are not zero, addresses strictly rising. An unlisted address reads as 0x00, the value of every byte at
creation (R55). -/
abbrev Memory := List Host.Cell

/-- The machine's state. `M` (index 6) is no register (R30); H:L addresses the memory byte it stands for. -/
structure State where
  /-- Register B (R30). -/
  b : Byte
  /-- Register C (R30). -/
  c : Byte
  /-- Register D (R30). -/
  d : Byte
  /-- Register E (R30). -/
  e : Byte
  /-- Register H (R30). -/
  h : Byte
  /-- Register L (R30). -/
  l : Byte
  /-- The accumulator A (R30, R33). -/
  a : Byte
  /-- The flag register F: S7 Z6 0 AC4 0 P2 1 CY0 (R39). -/
  f : Byte
  /-- The stack pointer (R37). -/
  sp : Word
  /-- The program counter (R38). -/
  pc : Word
  /-- The interrupt latch (R43). -/
  latch : Latch
  /-- Halted (R46). -/
  halted : Bool
  /-- interruptsEnabled, `IE` (R47). -/
  ie : Bool
  /-- Running (R48). -/
  running : Bool
  /-- The stop record (R50). -/
  stopInfo : StopInfo
  /-- The 65536 bytes of memory (R51). -/
  mem : Memory
  /-- The configuration (R8, R52): set by the host before the first step (R345), written by no step. -/
  cfg : Config
  /-- MODEL'S OWN (log 2): how many port answers have been drawn; it selects the next free value of R86. -/
  portDraws : Nat
  /-- MODEL'S OWN (log 3): what the block has issued to the host, oldest first. -/
  outbox : List HostEvent
  deriving DecidableEq, Repr

/-- Why a step faults: for no reason. The block's only exception is the fatal decode (R300), which is a next state (R135), so this
type has no constructor: that no step faults is part of its type (safe). -/
inductive Fault where
  deriving DecidableEq, Repr

/-- Why a step is refused. -/
inductive Refusal where
  /-- Raised by an arm of `exec` whose instruction has no meaning yet, naming its mnemonic; no arm does (safe). -/
  | notModelled (mnemonic : String)
  deriving DecidableEq, Repr

/-- The outcome of an instruction or of a step. -/
abbrev Result := Host.Outcome State Fault Refusal

/-- The state at creation, which is the block's one reset (R55, R340, R342). -/
def State.reset : State :=
  { b := 0x00#8, c := 0x00#8, d := 0x00#8, e := 0x00#8, h := 0x00#8, l := 0x00#8, a := 0x00#8
    f := 0x02#8
    sp := 0x0000#16
    pc := 0x0000#16
    latch := { latched := false, opcode := 0x00#8, data1 := 0x00#8, data2 := 0x00#8 }
    halted := false
    ie := false
    running := true
    stopInfo := .none
    mem := []
    cfg := Config.default
    portDraws := 0
    outbox := [] }

end Sys2Proof.Machine
end

