-- ==== Sys2Proof/Machine/Ops.lean ====
section
/-! DEFINITION. The named operations over State that the instructions share: single-field updates, memory and its write policy
(20_memory.md R76 to R79), the stack (R84, R85), the ports (R86, R87), taking the one exception (40_dispatch.md R135) and entering an
interrupt (60_exceptions.md R310). -/

namespace Sys2Proof.Machine

/-! ## Single-field updates -/

/-- `A <- v`. -/
def State.setA (v : Byte) (s : State) : State := { s with a := v }

/-- `F <- v`. -/
def State.setF (v : Byte) (s : State) : State := { s with f := v }

/-- `SP <- v`. -/
def State.setSp (v : Word) (s : State) : State := { s with sp := v }

/-- `pc <- v`. -/
def State.setPc (v : Word) (s : State) : State := { s with pc := v }

/-- `interruptsEnabled <- v`. -/
def State.setIe (v : Bool) (s : State) : State := { s with ie := v }

/-- `halted <- v`. -/
def State.setHalted (v : Bool) (s : State) : State := { s with halted := v }

/-- `mem <- m`. -/
def State.setMem (m : Memory) (s : State) : State := { s with mem := m }

/-- Issue an event to the host (R6; log 3). -/
def State.emit (ev : HostEvent) (s : State) : State := { s with outbox := s.outbox ++ [ev] }

/-! ## Memory as a list of cells -/

/-- What an unlisted address reads as: the value of every byte at creation (R55). -/
abbrev Memory.unlisted : Byte := 0x00#8

/-- The byte at an address (R76). -/
def Memory.read : Memory → Nat → Byte
  | [], _ => Memory.unlisted
  | (k, v) :: m, x => if k = x then v else Memory.read m x

/-- Every cell but those at `x`. -/
def Memory.erase : Memory → Nat → Memory
  | [], _ => []
  | (k, v) :: m, x => if k = x then Memory.erase m x else (k, v) :: Memory.erase m x

/-- Put a cell in its place by address. -/
def Memory.insert : Memory → Nat → Byte → Memory
  | [], x, v => [(x, v)]
  | (k, u) :: m, x, v => if x < k then (x, v) :: (k, u) :: m else (k, u) :: Memory.insert m x v

/-- `mem[x] <- v`, keeping the canonical form: writing what an unlisted address reads as removes the cell. -/
def Memory.write (m : Memory) (x : Nat) (v : Byte) : Memory :=
  if v = Memory.unlisted then Memory.erase m x else Memory.insert (Memory.erase m x) x v

/-- The canonical form: addresses strictly rising and inside the 65536 bytes (R51), and no cell that holds what an unlisted address
reads as. -/
abbrev Memory.wf (m : Memory) : Prop :=
  m.Pairwise (fun p q => p.1 < q.1) ∧ ∀ cell ∈ m, cell.1 < 65536 ∧ cell.2 ≠ Memory.unlisted

/-- Write bytes at consecutive addresses from `x` on; those at 65536 or above are not written (R80). -/
def Memory.bulkWrite : Memory → Nat → List Byte → Memory
  | m, _, [] => m
  | m, x, v :: vs => Memory.bulkWrite (if x < 65536 then m.write x v else m) (x + 1) vs

/-! ## Memory accesses of the block -/

/-- `MemRead(x, 1)` (R76). -/
def State.memRead (s : State) (x : Word) : Byte := s.mem.read x.toNat

/-- Does the policy reject a write to `x`? (R77, D21) -/
def State.isProtected (s : State) (x : Word) : Bool :=
  s.cfg.writeProtectEnabled && decide (x.toNat < s.cfg.writeProtectLimit.toNat)

/-- `MemWrite(x, 1, v)` under the write policy (R77, R79). -/
def State.memWrite (x : Word) (v : Byte) (s : State) : State :=
  if s.isProtected x then s.emit (.rejectedWrite x v) else s.setMem (s.mem.write x.toNat v)

/-- `MemRead(x, 2)`: little-endian, wrapping at 0xFFFF (R78, R13). -/
def State.memRead16 (s : State) (x : Word) : Word := wordOf (s.memRead (x + 1)) (s.memRead x)

/-- `MemWrite(x, 2, v)`: the low byte, then the high byte, each judged on its own address (R78, R79). -/
def State.memWrite16 (x v : Word) (s : State) : State :=
  (s.memWrite x (loByte v)).memWrite (x + 1) (hiByte v)

/-! ## The stack -/

/-- `Push16(v)` (R84). -/
def State.push16 (v : Word) (s : State) : State :=
  (((s.memWrite (s.sp - 1) (hiByte v)).memWrite (s.sp - 2) (loByte v))).setSp (s.sp - 2)

/-- The value `Pop16()` returns (R85). -/
def State.top16 (s : State) : Word := s.memRead16 s.sp

/-- What `Pop16()` does to the state (R85). -/
def State.dropTop (s : State) : State := s.setSp (s.sp + 2)

/-! ## Ports -/

/-- The host's answer to a read of port `p` in this state: a free value (R86, log 2). -/
def State.portAnswer (s : State) (p : Byte) : Byte := Config.portAnswer s.portDraws p

/-- Ask the host for port `p`: the request goes out and the answer is used up (R86). -/
def State.drawPort (p : Byte) (s : State) : State :=
  { s.emit (.portRead p) with portDraws := s.portDraws + 1 }

/-- `PortWrite(p, v)` (R87). -/
def State.portWrite (p v : Byte) (s : State) : State := s.emit (.portWrite p v)

/-! ## The exception, and interrupt entry -/

/-- Take the Fatal exception: FatalStop(op) of R135. There is no handler and no return (R300, R317): the machine stops, and every
other part of the state is unchanged. -/
def State.fatalStop (op : Byte) (s : State) : State :=
  { s with running := false, stopInfo := .fatalOpcode s.pc op }

/-- What servicing an interrupt does before the latched instruction runs (R309, R310, D15). It saves nothing; the instruction that
returns from a handler is an ordinary `RET` (R313). -/
def State.enterInterrupt (s : State) : State := (s.setIe false).setHalted false

/-- The end of a step that began with the latch full or not (R305, R310). -/
def State.endStep (wasLatched : Bool) (s : State) : State :=
  if wasLatched then { s with latch := { s.latch with latched := false } } else s

end Sys2Proof.Machine
end

