-- ==== Sys2Proof/Machine/Operands.lean ====
section
/-! DEFINITION. The operand accessors: the 8-bit operand of a 3-bit index (10_state.md R30, R32) and the pair of a 2-bit index with
its context (R34, R35, R36). -/

namespace Sys2Proof.Machine

/-- `{H, L}`: the address of the memory operand (R32). -/
def State.hl (s : State) : Word := wordOf s.h s.l

/-- `reg8(i)` (R32): index 6 reads the memory byte at HL. -/
def State.reg8 (r : Reg8) (s : State) : Byte :=
  match r with
  | .b => s.b
  | .c => s.c
  | .d => s.d
  | .e => s.e
  | .h => s.h
  | .l => s.l
  | .m => s.memRead s.hl
  | .a => s.a

/-- `setReg8(i, v)` (R32): index 6 writes the memory byte at HL, under the write policy. -/
def State.setReg8 (r : Reg8) (v : Byte) (s : State) : State :=
  match r with
  | .b => { s with b := v }
  | .c => { s with c := v }
  | .d => { s with d := v }
  | .e => { s with e := v }
  | .h => { s with h := v }
  | .l => { s with l := v }
  | .m => s.memWrite s.hl v
  | .a => s.setA v

/-- `pair(rp, ctx)` (R35): the fourth pair is SP, or A:F in the status context. -/
def State.pair (rp : Pair) (ctx : PairCtx) (s : State) : Word :=
  match rp, ctx with
  | .bc, _ => wordOf s.b s.c
  | .de, _ => wordOf s.d s.e
  | .hl, _ => wordOf s.h s.l
  | .fourth, .sp => s.sp
  | .fourth, .psw => wordOf s.a s.f

/-- `setPair(rp, v, ctx)` (R35): a write of PSW forces the reserved bits of F. -/
def State.setPair (rp : Pair) (ctx : PairCtx) (v : Word) (s : State) : State :=
  match rp, ctx with
  | .bc, _ => { s with b := hiByte v, c := loByte v }
  | .de, _ => { s with d := hiByte v, e := loByte v }
  | .hl, _ => { s with h := hiByte v, l := loByte v }
  | .fourth, .sp => s.setSp v
  | .fourth, .psw => { s with a := hiByte v, f := forceReserved (loByte v) }

end Sys2Proof.Machine
end

