-- ==== Sys2Proof/Machine/ArithLogic.lean ====
section
/-! DEFINITION. Arithmetic and logic (43_arith_logic.md R200 to R231): the accumulator operations with a register, memory or immediate
operand, INR, DCR, INX, DCX, DAD and DAA, over the engine of Machine/Flags.lean. -/

namespace Sys2Proof.Machine

/-! ## Shared operations -/

/-- An ALU operation on A and `x` (R162): all five flags, and A except for compare. -/
def State.aluWith (op : AluOp) (x : Byte) (trackAc : Bool) (s : State) : State :=
  let r := alu op s.a x (flagCY s.f) trackAc
  { s with a := if writesA op then r.result else s.a, f := writeFlags5 s.f r }

/-- The register and memory forms (R200 to R215); ANA tracks AC as `AnaTracksAc` says (R158). -/
def State.aluReg (op : AluOp) (r : Reg8) (s : State) : State := s.aluWith op (s.reg8 r) s.cfg.anaTracksAc

/-- The immediate forms (R216 to R223); ANI tracks AC as `AniTracksAc` says (R158). -/
def State.aluImm (op : AluOp) (d8 : Byte) (s : State) : State := s.aluWith op d8 s.cfg.aniTracksAc

/-- `INR r` and `INR M` (R224, R225): CY is kept, and the flags are written even where the policy drops the byte. -/
def State.increment (r : Reg8) (s : State) : State :=
  let o := inc8 (s.reg8 r)
  (s.setReg8 r o.result).setF (writeFlags4 s.f o)

/-- `DCR r` and `DCR M` (R226, R227). -/
def State.decrement (r : Reg8) (s : State) : State :=
  let o := dec8 (s.reg8 r)
  (s.setReg8 r o.result).setF (writeFlags4 s.f o)

/-- `INX rp` (R228). -/
def State.incPair (rp : Pair) (s : State) : State := s.setPair rp .sp (s.pair rp .sp + 1)

/-- `DCX rp` (R229). -/
def State.decPair (rp : Pair) (s : State) : State := s.setPair rp .sp (s.pair rp .sp - 1)

/-- `DAD rp` (R230): CY is the only flag written. -/
def State.addPairToHl (rp : Pair) (s : State) : State :=
  let t := add16 s.hl (s.pair rp .sp)
  (s.setPair .hl .sp t.1).setF (withCY s.f t.2)

/-- `DAA` (R231). -/
def State.decimalAdjust (s : State) : State :=
  let r := daa s.a s.f
  { s with a := r.1, f := r.2 }

/-! ## The meanings -/

/-- `INX B` (R228). -/
def execInxB (s : State) : Result := .next (s.incPair .bc)

/-- `INR B` (R224). -/
def execInrB (s : State) : Result := .next (s.increment .b)

/-- `DCR B` (R226). -/
def execDcrB (s : State) : Result := .next (s.decrement .b)

/-- `DAD B` (R230). -/
def execDadB (s : State) : Result := .next (s.addPairToHl .bc)

/-- `DCX B` (R229). -/
def execDcxB (s : State) : Result := .next (s.decPair .bc)

/-- `INR C` (R224). -/
def execInrC (s : State) : Result := .next (s.increment .c)

/-- `DCR C` (R226). -/
def execDcrC (s : State) : Result := .next (s.decrement .c)

/-- `INX D` (R228). -/
def execInxD (s : State) : Result := .next (s.incPair .de)

/-- `INR D` (R224). -/
def execInrD (s : State) : Result := .next (s.increment .d)

/-- `DCR D` (R226). -/
def execDcrD (s : State) : Result := .next (s.decrement .d)

/-- `DAD D` (R230). -/
def execDadD (s : State) : Result := .next (s.addPairToHl .de)

/-- `DCX D` (R229). -/
def execDcxD (s : State) : Result := .next (s.decPair .de)

/-- `INR E` (R224). -/
def execInrE (s : State) : Result := .next (s.increment .e)

/-- `DCR E` (R226). -/
def execDcrE (s : State) : Result := .next (s.decrement .e)

/-- `INX H` (R228). -/
def execInxH (s : State) : Result := .next (s.incPair .hl)

/-- `INR H` (R224). -/
def execInrH (s : State) : Result := .next (s.increment .h)

/-- `DCR H` (R226). -/
def execDcrH (s : State) : Result := .next (s.decrement .h)

/-- `DAA` (R231). -/
def execDaa (s : State) : Result := .next (s.decimalAdjust)

/-- `DAD H` (R230). -/
def execDadH (s : State) : Result := .next (s.addPairToHl .hl)

/-- `DCX H` (R229). -/
def execDcxH (s : State) : Result := .next (s.decPair .hl)

/-- `INR L` (R224). -/
def execInrL (s : State) : Result := .next (s.increment .l)

/-- `DCR L` (R226). -/
def execDcrL (s : State) : Result := .next (s.decrement .l)

/-- `INX SP` (R228). -/
def execInxSp (s : State) : Result := .next (s.incPair .fourth)

/-- `INR M` (R225). -/
def execInrM (s : State) : Result := .next (s.increment .m)

/-- `DCR M` (R227). -/
def execDcrM (s : State) : Result := .next (s.decrement .m)

/-- `DAD SP` (R230). -/
def execDadSp (s : State) : Result := .next (s.addPairToHl .fourth)

/-- `DCX SP` (R229). -/
def execDcxSp (s : State) : Result := .next (s.decPair .fourth)

/-- `INR A` (R224). -/
def execInrA (s : State) : Result := .next (s.increment .a)

/-- `DCR A` (R226). -/
def execDcrA (s : State) : Result := .next (s.decrement .a)

/-- `ADD B` (R200). -/
def execAddB (s : State) : Result := .next (s.aluReg .add .b)

/-- `ADD C` (R200). -/
def execAddC (s : State) : Result := .next (s.aluReg .add .c)

/-- `ADD D` (R200). -/
def execAddD (s : State) : Result := .next (s.aluReg .add .d)

/-- `ADD E` (R200). -/
def execAddE (s : State) : Result := .next (s.aluReg .add .e)

/-- `ADD H` (R200). -/
def execAddH (s : State) : Result := .next (s.aluReg .add .h)

/-- `ADD L` (R200). -/
def execAddL (s : State) : Result := .next (s.aluReg .add .l)

/-- `ADD M` (R201). -/
def execAddM (s : State) : Result := .next (s.aluReg .add .m)

/-- `ADD A` (R200). -/
def execAddA (s : State) : Result := .next (s.aluReg .add .a)

/-- `ADC B` (R202). -/
def execAdcB (s : State) : Result := .next (s.aluReg .adc .b)

/-- `ADC C` (R202). -/
def execAdcC (s : State) : Result := .next (s.aluReg .adc .c)

/-- `ADC D` (R202). -/
def execAdcD (s : State) : Result := .next (s.aluReg .adc .d)

/-- `ADC E` (R202). -/
def execAdcE (s : State) : Result := .next (s.aluReg .adc .e)

/-- `ADC H` (R202). -/
def execAdcH (s : State) : Result := .next (s.aluReg .adc .h)

/-- `ADC L` (R202). -/
def execAdcL (s : State) : Result := .next (s.aluReg .adc .l)

/-- `ADC M` (R203). -/
def execAdcM (s : State) : Result := .next (s.aluReg .adc .m)

/-- `ADC A` (R202). -/
def execAdcA (s : State) : Result := .next (s.aluReg .adc .a)

/-- `SUB B` (R204). -/
def execSubB (s : State) : Result := .next (s.aluReg .sub .b)

/-- `SUB C` (R204). -/
def execSubC (s : State) : Result := .next (s.aluReg .sub .c)

/-- `SUB D` (R204). -/
def execSubD (s : State) : Result := .next (s.aluReg .sub .d)

/-- `SUB E` (R204). -/
def execSubE (s : State) : Result := .next (s.aluReg .sub .e)

/-- `SUB H` (R204). -/
def execSubH (s : State) : Result := .next (s.aluReg .sub .h)

/-- `SUB L` (R204). -/
def execSubL (s : State) : Result := .next (s.aluReg .sub .l)

/-- `SUB M` (R205). -/
def execSubM (s : State) : Result := .next (s.aluReg .sub .m)

/-- `SUB A` (R204). -/
def execSubA (s : State) : Result := .next (s.aluReg .sub .a)

/-- `SBB B` (R206). -/
def execSbbB (s : State) : Result := .next (s.aluReg .sbb .b)

/-- `SBB C` (R206). -/
def execSbbC (s : State) : Result := .next (s.aluReg .sbb .c)

/-- `SBB D` (R206). -/
def execSbbD (s : State) : Result := .next (s.aluReg .sbb .d)

/-- `SBB E` (R206). -/
def execSbbE (s : State) : Result := .next (s.aluReg .sbb .e)

/-- `SBB H` (R206). -/
def execSbbH (s : State) : Result := .next (s.aluReg .sbb .h)

/-- `SBB L` (R206). -/
def execSbbL (s : State) : Result := .next (s.aluReg .sbb .l)

/-- `SBB M` (R207). -/
def execSbbM (s : State) : Result := .next (s.aluReg .sbb .m)

/-- `SBB A` (R206). -/
def execSbbA (s : State) : Result := .next (s.aluReg .sbb .a)

/-- `ANA B` (R208). -/
def execAnaB (s : State) : Result := .next (s.aluReg .ana .b)

/-- `ANA C` (R208). -/
def execAnaC (s : State) : Result := .next (s.aluReg .ana .c)

/-- `ANA D` (R208). -/
def execAnaD (s : State) : Result := .next (s.aluReg .ana .d)

/-- `ANA E` (R208). -/
def execAnaE (s : State) : Result := .next (s.aluReg .ana .e)

/-- `ANA H` (R208). -/
def execAnaH (s : State) : Result := .next (s.aluReg .ana .h)

/-- `ANA L` (R208). -/
def execAnaL (s : State) : Result := .next (s.aluReg .ana .l)

/-- `ANA M` (R209). -/
def execAnaM (s : State) : Result := .next (s.aluReg .ana .m)

/-- `ANA A` (R208). -/
def execAnaA (s : State) : Result := .next (s.aluReg .ana .a)

/-- `XRA B` (R210). -/
def execXraB (s : State) : Result := .next (s.aluReg .xra .b)

/-- `XRA C` (R210). -/
def execXraC (s : State) : Result := .next (s.aluReg .xra .c)

/-- `XRA D` (R210). -/
def execXraD (s : State) : Result := .next (s.aluReg .xra .d)

/-- `XRA E` (R210). -/
def execXraE (s : State) : Result := .next (s.aluReg .xra .e)

/-- `XRA H` (R210). -/
def execXraH (s : State) : Result := .next (s.aluReg .xra .h)

/-- `XRA L` (R210). -/
def execXraL (s : State) : Result := .next (s.aluReg .xra .l)

/-- `XRA M` (R211). -/
def execXraM (s : State) : Result := .next (s.aluReg .xra .m)

/-- `XRA A` (R210). -/
def execXraA (s : State) : Result := .next (s.aluReg .xra .a)

/-- `ORA B` (R212). -/
def execOraB (s : State) : Result := .next (s.aluReg .ora .b)

/-- `ORA C` (R212). -/
def execOraC (s : State) : Result := .next (s.aluReg .ora .c)

/-- `ORA D` (R212). -/
def execOraD (s : State) : Result := .next (s.aluReg .ora .d)

/-- `ORA E` (R212). -/
def execOraE (s : State) : Result := .next (s.aluReg .ora .e)

/-- `ORA H` (R212). -/
def execOraH (s : State) : Result := .next (s.aluReg .ora .h)

/-- `ORA L` (R212). -/
def execOraL (s : State) : Result := .next (s.aluReg .ora .l)

/-- `ORA M` (R213). -/
def execOraM (s : State) : Result := .next (s.aluReg .ora .m)

/-- `ORA A` (R212). -/
def execOraA (s : State) : Result := .next (s.aluReg .ora .a)

/-- `CMP B` (R214). -/
def execCmpB (s : State) : Result := .next (s.aluReg .cmp .b)

/-- `CMP C` (R214). -/
def execCmpC (s : State) : Result := .next (s.aluReg .cmp .c)

/-- `CMP D` (R214). -/
def execCmpD (s : State) : Result := .next (s.aluReg .cmp .d)

/-- `CMP E` (R214). -/
def execCmpE (s : State) : Result := .next (s.aluReg .cmp .e)

/-- `CMP H` (R214). -/
def execCmpH (s : State) : Result := .next (s.aluReg .cmp .h)

/-- `CMP L` (R214). -/
def execCmpL (s : State) : Result := .next (s.aluReg .cmp .l)

/-- `CMP M` (R215). -/
def execCmpM (s : State) : Result := .next (s.aluReg .cmp .m)

/-- `CMP A` (R214). -/
def execCmpA (s : State) : Result := .next (s.aluReg .cmp .a)

/-- `ADI d8` (R216). -/
def execAdi (d8 : Byte) (s : State) : Result := .next (s.aluImm .add d8)

/-- `ACI d8` (R217). -/
def execAci (d8 : Byte) (s : State) : Result := .next (s.aluImm .adc d8)

/-- `SUI d8` (R218). -/
def execSui (d8 : Byte) (s : State) : Result := .next (s.aluImm .sub d8)

/-- `SBI d8` (R219). -/
def execSbi (d8 : Byte) (s : State) : Result := .next (s.aluImm .sbb d8)

/-- `ANI d8` (R220). -/
def execAni (d8 : Byte) (s : State) : Result := .next (s.aluImm .ana d8)

/-- `XRI d8` (R221). -/
def execXri (d8 : Byte) (s : State) : Result := .next (s.aluImm .xra d8)

/-- `ORI d8` (R222). -/
def execOri (d8 : Byte) (s : State) : Result := .next (s.aluImm .ora d8)

/-- `CPI d8` (R223). -/
def execCpi (d8 : Byte) (s : State) : Result := .next (s.aluImm .cmp d8)

end Sys2Proof.Machine
end

