-- ==== Sys2Proof/Machine/Branch.lean ====
section
/-! DEFINITION. Jumps, calls, returns and restarts (45_branch.md R245 to R254). `pc` holds the advanced value when a meaning runs
(40_dispatch.md R132, R133), which is the return address of a fetched call; targets are absolute (R253). No flag is written. -/

namespace Sys2Proof.Machine

/-! ## Shared operations -/

/-- `JMP a16` (R245). -/
def State.jump (a16 : Word) (s : State) : State := s.setPc a16

/-- `Jcc a16` (R246). -/
def State.jumpIf (k : Cond) (a16 : Word) (s : State) : State := if condHolds k s.f then s.jump a16 else s

/-- `CALL a16` (R247). -/
def State.call (a16 : Word) (s : State) : State := (s.push16 s.pc).setPc a16

/-- `Ccc a16` (R248). -/
def State.callIf (k : Cond) (a16 : Word) (s : State) : State := if condHolds k s.f then s.call a16 else s

/-- `RET` (R249). -/
def State.ret (s : State) : State := s.dropTop.setPc s.top16

/-- `Rcc` (R250). -/
def State.retIf (k : Cond) (s : State) : State := if condHolds k s.f then s.ret else s

/-- `RST n` (R251): a call to `8 * n`. -/
def State.restart (n : Nat) (s : State) : State := s.call (BitVec.ofNat 16 (8 * n))

/-- `PCHL` (R252). -/
def State.jumpHl (s : State) : State := s.setPc s.hl

/-! ## The meanings -/

/-- `RNZ` (R250). -/
def execRnz (s : State) : Result := .next (s.retIf .nz)

/-- `JNZ a16` (R246). -/
def execJnz (a16 : Word) (s : State) : Result := .next (s.jumpIf .nz a16)

/-- `JMP a16` (R245). -/
def execJmp (a16 : Word) (s : State) : Result := .next (s.jump a16)

/-- `CNZ a16` (R248). -/
def execCnz (a16 : Word) (s : State) : Result := .next (s.callIf .nz a16)

/-- `RST 0` (R251). -/
def execRst0 (s : State) : Result := .next (s.restart 0)

/-- `RZ` (R250). -/
def execRz (s : State) : Result := .next (s.retIf .z)

/-- `RET` (R249). -/
def execRet (s : State) : Result := .next (s.ret)

/-- `JZ a16` (R246). -/
def execJz (a16 : Word) (s : State) : Result := .next (s.jumpIf .z a16)

/-- `CZ a16` (R248). -/
def execCz (a16 : Word) (s : State) : Result := .next (s.callIf .z a16)

/-- `CALL a16` (R247). -/
def execCall (a16 : Word) (s : State) : Result := .next (s.call a16)

/-- `RST 1` (R251). -/
def execRst1 (s : State) : Result := .next (s.restart 1)

/-- `RNC` (R250). -/
def execRnc (s : State) : Result := .next (s.retIf .nc)

/-- `JNC a16` (R246). -/
def execJnc (a16 : Word) (s : State) : Result := .next (s.jumpIf .nc a16)

/-- `CNC a16` (R248). -/
def execCnc (a16 : Word) (s : State) : Result := .next (s.callIf .nc a16)

/-- `RST 2` (R251). -/
def execRst2 (s : State) : Result := .next (s.restart 2)

/-- `RC` (R250). -/
def execRc (s : State) : Result := .next (s.retIf .c)

/-- `JC a16` (R246). -/
def execJc (a16 : Word) (s : State) : Result := .next (s.jumpIf .c a16)

/-- `CC a16` (R248). -/
def execCc (a16 : Word) (s : State) : Result := .next (s.callIf .c a16)

/-- `RST 3` (R251). -/
def execRst3 (s : State) : Result := .next (s.restart 3)

/-- `RPO` (R250). -/
def execRpo (s : State) : Result := .next (s.retIf .po)

/-- `JPO a16` (R246). -/
def execJpo (a16 : Word) (s : State) : Result := .next (s.jumpIf .po a16)

/-- `CPO a16` (R248). -/
def execCpo (a16 : Word) (s : State) : Result := .next (s.callIf .po a16)

/-- `RST 4` (R251). -/
def execRst4 (s : State) : Result := .next (s.restart 4)

/-- `RPE` (R250). -/
def execRpe (s : State) : Result := .next (s.retIf .pe)

/-- `PCHL` (R252). -/
def execPchl (s : State) : Result := .next (s.jumpHl)

/-- `JPE a16` (R246). -/
def execJpe (a16 : Word) (s : State) : Result := .next (s.jumpIf .pe a16)

/-- `CPE a16` (R248). -/
def execCpe (a16 : Word) (s : State) : Result := .next (s.callIf .pe a16)

/-- `RST 5` (R251). -/
def execRst5 (s : State) : Result := .next (s.restart 5)

/-- `RP` (R250). -/
def execRp (s : State) : Result := .next (s.retIf .p)

/-- `JP a16` (R246). -/
def execJp (a16 : Word) (s : State) : Result := .next (s.jumpIf .p a16)

/-- `CP a16` (R248). -/
def execCp (a16 : Word) (s : State) : Result := .next (s.callIf .p a16)

/-- `RST 6` (R251). -/
def execRst6 (s : State) : Result := .next (s.restart 6)

/-- `RM` (R250). -/
def execRm (s : State) : Result := .next (s.retIf .m)

/-- `JM a16` (R246). -/
def execJm (a16 : Word) (s : State) : Result := .next (s.jumpIf .m a16)

/-- `CM a16` (R248). -/
def execCm (a16 : Word) (s : State) : Result := .next (s.callIf .m a16)

/-- `RST 7` (R251). -/
def execRst7 (s : State) : Result := .next (s.restart 7)

end Sys2Proof.Machine
end

