-- ==== Sys2Proof/Machine/DataTransfer.lean ====
section
/-! DEFINITION. Data transfer (42_data_transfer.md R180 to R192): MOV, MVI, LXI, LDA, STA, LHLD, SHLD, LDAX, STAX, XCHG. None writes a
flag. The program counter has been advanced before a meaning runs (40_dispatch.md R132, R133). -/

namespace Sys2Proof.Machine

/-! ## Shared operations -/

/-- `MOV r1,r2` (R180, R181, R182): the source, and the address, are read before the destination is written. -/
def State.move (r1 r2 : Reg8) (s : State) : State := s.setReg8 r1 (s.reg8 r2)

/-- `MVI r,d8` (R183, R184). -/
def State.moveImm (r : Reg8) (d8 : Byte) (s : State) : State := s.setReg8 r d8

/-- `LXI rp,d16` (R185). -/
def State.loadPair (rp : Pair) (d16 : Word) (s : State) : State := s.setPair rp .sp d16

/-- `LDA a16` (R186). -/
def State.loadA (a16 : Word) (s : State) : State := s.setA (s.memRead a16)

/-- `STA a16` (R187). -/
def State.storeA (a16 : Word) (s : State) : State := s.memWrite a16 s.a

/-- `LHLD a16` (R188). -/
def State.loadHl (a16 : Word) (s : State) : State :=
  { s with l := s.memRead a16, h := s.memRead (a16 + 1) }

/-- `SHLD a16` (R189). -/
def State.storeHl (a16 : Word) (s : State) : State := s.memWrite16 a16 s.hl

/-- `LDAX rp` (R190). -/
def State.loadAIndirect (rp : Pair) (s : State) : State := s.setA (s.memRead (s.pair rp .sp))

/-- `STAX rp` (R191). -/
def State.storeAIndirect (rp : Pair) (s : State) : State := s.memWrite (s.pair rp .sp) s.a

/-- `XCHG` (R192): both swaps at once. -/
def State.exchange (s : State) : State := { s with d := s.h, h := s.d, e := s.l, l := s.e }

/-! ## The meanings -/

/-- `LXI B,d16` (R185). -/
def execLxiB (d16 : Word) (s : State) : Result := .next (s.loadPair .bc d16)

/-- `STAX B` (R191). -/
def execStaxB (s : State) : Result := .next (s.storeAIndirect .bc)

/-- `MVI B,d8` (R183). -/
def execMviB (d8 : Byte) (s : State) : Result := .next (s.moveImm .b d8)

/-- `LDAX B` (R190). -/
def execLdaxB (s : State) : Result := .next (s.loadAIndirect .bc)

/-- `MVI C,d8` (R183). -/
def execMviC (d8 : Byte) (s : State) : Result := .next (s.moveImm .c d8)

/-- `LXI D,d16` (R185). -/
def execLxiD (d16 : Word) (s : State) : Result := .next (s.loadPair .de d16)

/-- `STAX D` (R191). -/
def execStaxD (s : State) : Result := .next (s.storeAIndirect .de)

/-- `MVI D,d8` (R183). -/
def execMviD (d8 : Byte) (s : State) : Result := .next (s.moveImm .d d8)

/-- `LDAX D` (R190). -/
def execLdaxD (s : State) : Result := .next (s.loadAIndirect .de)

/-- `MVI E,d8` (R183). -/
def execMviE (d8 : Byte) (s : State) : Result := .next (s.moveImm .e d8)

/-- `LXI H,d16` (R185). -/
def execLxiH (d16 : Word) (s : State) : Result := .next (s.loadPair .hl d16)

/-- `SHLD a16` (R189). -/
def execShld (a16 : Word) (s : State) : Result := .next (s.storeHl a16)

/-- `MVI H,d8` (R183). -/
def execMviH (d8 : Byte) (s : State) : Result := .next (s.moveImm .h d8)

/-- `LHLD a16` (R188). -/
def execLhld (a16 : Word) (s : State) : Result := .next (s.loadHl a16)

/-- `MVI L,d8` (R183). -/
def execMviL (d8 : Byte) (s : State) : Result := .next (s.moveImm .l d8)

/-- `LXI SP,d16` (R185). -/
def execLxiSp (d16 : Word) (s : State) : Result := .next (s.loadPair .fourth d16)

/-- `STA a16` (R187). -/
def execSta (a16 : Word) (s : State) : Result := .next (s.storeA a16)

/-- `MVI M,d8` (R184). -/
def execMviM (d8 : Byte) (s : State) : Result := .next (s.moveImm .m d8)

/-- `LDA a16` (R186). -/
def execLda (a16 : Word) (s : State) : Result := .next (s.loadA a16)

/-- `MVI A,d8` (R183). -/
def execMviA (d8 : Byte) (s : State) : Result := .next (s.moveImm .a d8)

/-- `MOV B,B` (R180). -/
def execMovBB (s : State) : Result := .next (s.move .b .b)

/-- `MOV B,C` (R180). -/
def execMovBC (s : State) : Result := .next (s.move .b .c)

/-- `MOV B,D` (R180). -/
def execMovBD (s : State) : Result := .next (s.move .b .d)

/-- `MOV B,E` (R180). -/
def execMovBE (s : State) : Result := .next (s.move .b .e)

/-- `MOV B,H` (R180). -/
def execMovBH (s : State) : Result := .next (s.move .b .h)

/-- `MOV B,L` (R180). -/
def execMovBL (s : State) : Result := .next (s.move .b .l)

/-- `MOV B,M` (R181). -/
def execMovBM (s : State) : Result := .next (s.move .b .m)

/-- `MOV B,A` (R180). -/
def execMovBA (s : State) : Result := .next (s.move .b .a)

/-- `MOV C,B` (R180). -/
def execMovCB (s : State) : Result := .next (s.move .c .b)

/-- `MOV C,C` (R180). -/
def execMovCC (s : State) : Result := .next (s.move .c .c)

/-- `MOV C,D` (R180). -/
def execMovCD (s : State) : Result := .next (s.move .c .d)

/-- `MOV C,E` (R180). -/
def execMovCE (s : State) : Result := .next (s.move .c .e)

/-- `MOV C,H` (R180). -/
def execMovCH (s : State) : Result := .next (s.move .c .h)

/-- `MOV C,L` (R180). -/
def execMovCL (s : State) : Result := .next (s.move .c .l)

/-- `MOV C,M` (R181). -/
def execMovCM (s : State) : Result := .next (s.move .c .m)

/-- `MOV C,A` (R180). -/
def execMovCA (s : State) : Result := .next (s.move .c .a)

/-- `MOV D,B` (R180). -/
def execMovDB (s : State) : Result := .next (s.move .d .b)

/-- `MOV D,C` (R180). -/
def execMovDC (s : State) : Result := .next (s.move .d .c)

/-- `MOV D,D` (R180). -/
def execMovDD (s : State) : Result := .next (s.move .d .d)

/-- `MOV D,E` (R180). -/
def execMovDE (s : State) : Result := .next (s.move .d .e)

/-- `MOV D,H` (R180). -/
def execMovDH (s : State) : Result := .next (s.move .d .h)

/-- `MOV D,L` (R180). -/
def execMovDL (s : State) : Result := .next (s.move .d .l)

/-- `MOV D,M` (R181). -/
def execMovDM (s : State) : Result := .next (s.move .d .m)

/-- `MOV D,A` (R180). -/
def execMovDA (s : State) : Result := .next (s.move .d .a)

/-- `MOV E,B` (R180). -/
def execMovEB (s : State) : Result := .next (s.move .e .b)

/-- `MOV E,C` (R180). -/
def execMovEC (s : State) : Result := .next (s.move .e .c)

/-- `MOV E,D` (R180). -/
def execMovED (s : State) : Result := .next (s.move .e .d)

/-- `MOV E,E` (R180). -/
def execMovEE (s : State) : Result := .next (s.move .e .e)

/-- `MOV E,H` (R180). -/
def execMovEH (s : State) : Result := .next (s.move .e .h)

/-- `MOV E,L` (R180). -/
def execMovEL (s : State) : Result := .next (s.move .e .l)

/-- `MOV E,M` (R181). -/
def execMovEM (s : State) : Result := .next (s.move .e .m)

/-- `MOV E,A` (R180). -/
def execMovEA (s : State) : Result := .next (s.move .e .a)

/-- `MOV H,B` (R180). -/
def execMovHB (s : State) : Result := .next (s.move .h .b)

/-- `MOV H,C` (R180). -/
def execMovHC (s : State) : Result := .next (s.move .h .c)

/-- `MOV H,D` (R180). -/
def execMovHD (s : State) : Result := .next (s.move .h .d)

/-- `MOV H,E` (R180). -/
def execMovHE (s : State) : Result := .next (s.move .h .e)

/-- `MOV H,H` (R180). -/
def execMovHH (s : State) : Result := .next (s.move .h .h)

/-- `MOV H,L` (R180). -/
def execMovHL (s : State) : Result := .next (s.move .h .l)

/-- `MOV H,M` (R181). -/
def execMovHM (s : State) : Result := .next (s.move .h .m)

/-- `MOV H,A` (R180). -/
def execMovHA (s : State) : Result := .next (s.move .h .a)

/-- `MOV L,B` (R180). -/
def execMovLB (s : State) : Result := .next (s.move .l .b)

/-- `MOV L,C` (R180). -/
def execMovLC (s : State) : Result := .next (s.move .l .c)

/-- `MOV L,D` (R180). -/
def execMovLD (s : State) : Result := .next (s.move .l .d)

/-- `MOV L,E` (R180). -/
def execMovLE (s : State) : Result := .next (s.move .l .e)

/-- `MOV L,H` (R180). -/
def execMovLH (s : State) : Result := .next (s.move .l .h)

/-- `MOV L,L` (R180). -/
def execMovLL (s : State) : Result := .next (s.move .l .l)

/-- `MOV L,M` (R181). -/
def execMovLM (s : State) : Result := .next (s.move .l .m)

/-- `MOV L,A` (R180). -/
def execMovLA (s : State) : Result := .next (s.move .l .a)

/-- `MOV M,B` (R182). -/
def execMovMB (s : State) : Result := .next (s.move .m .b)

/-- `MOV M,C` (R182). -/
def execMovMC (s : State) : Result := .next (s.move .m .c)

/-- `MOV M,D` (R182). -/
def execMovMD (s : State) : Result := .next (s.move .m .d)

/-- `MOV M,E` (R182). -/
def execMovME (s : State) : Result := .next (s.move .m .e)

/-- `MOV M,H` (R182). -/
def execMovMH (s : State) : Result := .next (s.move .m .h)

/-- `MOV M,L` (R182). -/
def execMovML (s : State) : Result := .next (s.move .m .l)

/-- `MOV M,A` (R182). -/
def execMovMA (s : State) : Result := .next (s.move .m .a)

/-- `MOV A,B` (R180). -/
def execMovAB (s : State) : Result := .next (s.move .a .b)

/-- `MOV A,C` (R180). -/
def execMovAC (s : State) : Result := .next (s.move .a .c)

/-- `MOV A,D` (R180). -/
def execMovAD (s : State) : Result := .next (s.move .a .d)

/-- `MOV A,E` (R180). -/
def execMovAE (s : State) : Result := .next (s.move .a .e)

/-- `MOV A,H` (R180). -/
def execMovAH (s : State) : Result := .next (s.move .a .h)

/-- `MOV A,L` (R180). -/
def execMovAL (s : State) : Result := .next (s.move .a .l)

/-- `MOV A,M` (R181). -/
def execMovAM (s : State) : Result := .next (s.move .a .m)

/-- `MOV A,A` (R180). -/
def execMovAA (s : State) : Result := .next (s.move .a .a)

/-- `XCHG` (R192). -/
def execXchg (s : State) : Result := .next (s.exchange)

end Sys2Proof.Machine
end

