-- ==== Sys2Proof/Machine/Rotate.lean ====
section
/-! DEFINITION. Rotates, complement and carry (44_rotate_flag.md R235 to R241). None writes Z, S, P or AC. -/

namespace Sys2Proof.Machine

/-! ## Shared operations -/

/-- Write A and CY. -/
def State.setACarry (v : Byte) (cy : Bool) (s : State) : State := { s with a := v, f := withCY s.f cy }

/-- `RLC` (R235). -/
def State.rotateLeft (s : State) : State :=
  s.setACarry (shiftLeftIn s.a (s.a.getLsbD 7)) (s.a.getLsbD 7)

/-- `RRC` (R236). -/
def State.rotateRight (s : State) : State :=
  s.setACarry (shiftRightIn s.a (s.a.getLsbD 0)) (s.a.getLsbD 0)

/-- `RAL` (R237). -/
def State.rotateLeftCarry (s : State) : State :=
  s.setACarry (shiftLeftIn s.a (flagCY s.f)) (s.a.getLsbD 7)

/-- `RAR` (R238). -/
def State.rotateRightCarry (s : State) : State :=
  s.setACarry (shiftRightIn s.a (flagCY s.f)) (s.a.getLsbD 0)

/-- `CMA` (R239): no flag. -/
def State.complementA (s : State) : State := s.setA (s.a ^^^ 0xFF#8)

/-- `STC` (R240). -/
def State.setCarry (s : State) : State := s.setF (withCY s.f true)

/-- `CMC` (R241). -/
def State.complementCarry (s : State) : State := s.setF (withCY s.f (!flagCY s.f))

/-! ## The meanings -/

/-- `RLC` (R235). -/
def execRlc (s : State) : Result := .next (s.rotateLeft)

/-- `RRC` (R236). -/
def execRrc (s : State) : Result := .next (s.rotateRight)

/-- `RAL` (R237). -/
def execRal (s : State) : Result := .next (s.rotateLeftCarry)

/-- `RAR` (R238). -/
def execRar (s : State) : Result := .next (s.rotateRightCarry)

/-- `CMA` (R239). -/
def execCma (s : State) : Result := .next (s.complementA)

/-- `STC` (R240). -/
def execStc (s : State) : Result := .next (s.setCarry)

/-- `CMC` (R241). -/
def execCmc (s : State) : Result := .next (s.complementCarry)

end Sys2Proof.Machine
end

