-- ==== Sys2Proof/Machine/StackIo.lean ====
section
/-! DEFINITION. Stack, ports, interrupt enable, halt and no-operation (46_stack_io_machine.md R260 to R271), and the meaning of the 12
fatal opcodes (40_dispatch.md R135). -/

namespace Sys2Proof.Machine

/-! ## Shared operations -/

/-- `PUSH rp` and `PUSH PSW` (R260, R261). -/
def State.pushPair (rp : Pair) (s : State) : State := s.push16 (s.pair rp .psw)

/-- `POP rp` and `POP PSW` (R262, R263). -/
def State.popPair (rp : Pair) (s : State) : State := s.dropTop.setPair rp .psw s.top16

/-- `XTHL` (R264): both bytes are read before either is written. -/
def State.exchangeTop (s : State) : State :=
  { s.memWrite16 s.sp s.hl with h := hiByte s.top16, l := loByte s.top16 }

/-- `SPHL` (R265). -/
def State.loadSpHl (s : State) : State := s.setSp s.hl

/-- `IN port` (R266): A takes the host's answer, a free value. -/
def State.portIn (port : Byte) (s : State) : State := (s.drawPort port).setA (s.portAnswer port)

/-- `OUT port` (R267). -/
def State.portOut (port : Byte) (s : State) : State := s.portWrite port s.a

/-- `EI` (R268): in force at the next step's check (D14). -/
def State.enableInterrupts (s : State) : State := s.setIe true

/-- `DI` (R269). -/
def State.disableInterrupts (s : State) : State := s.setIe false

/-- `HLT` (R270). -/
def State.halt (s : State) : State := s.setHalted true

/-! ## The meanings -/

/-- `NOP` (R271). -/
def execNop (s : State) : Result := .next s

/-- `HLT` (R270). -/
def execHlt (s : State) : Result := .next (s.halt)

/-- `POP B` (R262). -/
def execPopB (s : State) : Result := .next (s.popPair .bc)

/-- `PUSH B` (R260). -/
def execPushB (s : State) : Result := .next (s.pushPair .bc)

/-- `POP D` (R262). -/
def execPopD (s : State) : Result := .next (s.popPair .de)

/-- `OUT d8` (R267). -/
def execOut (port : Byte) (s : State) : Result := .next (s.portOut port)

/-- `PUSH D` (R260). -/
def execPushD (s : State) : Result := .next (s.pushPair .de)

/-- `IN d8` (R266). -/
def execInp (port : Byte) (s : State) : Result := .next (s.portIn port)

/-- `POP H` (R262). -/
def execPopH (s : State) : Result := .next (s.popPair .hl)

/-- `XTHL` (R264). -/
def execXthl (s : State) : Result := .next (s.exchangeTop)

/-- `PUSH H` (R260). -/
def execPushH (s : State) : Result := .next (s.pushPair .hl)

/-- `POP PSW` (R263). -/
def execPopPsw (s : State) : Result := .next (s.popPair .fourth)

/-- `DI` (R269). -/
def execDi (s : State) : Result := .next (s.disableInterrupts)

/-- `PUSH PSW` (R261). -/
def execPushPsw (s : State) : Result := .next (s.pushPair .fourth)

/-- `SPHL` (R265). -/
def execSphl (s : State) : Result := .next (s.loadSpHl)

/-- `EI` (R268). -/
def execEi (s : State) : Result := .next (s.enableInterrupts)

/-- A fatal opcode (R135): take the Fatal exception. -/
def execFatal (op : Byte) (s : State) : Result := .next (s.fatalStop op)

end Sys2Proof.Machine
end

