-- ==== Sys2Proof/Machine/Execute.lean ====
section
/-! DEFINITION. Fetching and executing one instruction (40_dispatch.md R130 to R135), and the cases of the step
(60_exceptions.md R310). Step.lean only calls what stands here. -/

namespace Sys2Proof.Machine

/-- What a step does, before it does it (R310). -/
inductive StepCase where
  /-- `running` is false: the step changes nothing (R317). -/
  | stopped
  /-- An enabled, latched interrupt is serviced: its three bytes take the place of a fetch (R109, R310). -/
  | service (op b2 b3 : Byte)
  /-- Halted with nothing to service: no fetch and no work (R315). -/
  | idle
  /-- The three bytes at `pc`, `pc+1` and `pc+2` are fetched (R131). -/
  | fetch (op b2 b3 : Byte)
  deriving DecidableEq, Repr

/-- Which case holds in a state (R307, R310). -/
def State.stepCase (s : State) : StepCase :=
  if !s.running then .stopped
  else if s.latch.latched && s.ie then .service s.latch.opcode s.latch.data1 s.latch.data2
  else if s.halted then .idle
  else .fetch (s.memRead s.pc) (s.memRead (s.pc + 1)) (s.memRead (s.pc + 2))

/-- Advance the program counter past a fetched instruction (R132). -/
def State.advance (i : Instr) (s : State) : State := s.setPc (s.pc + BitVec.ofNat 16 i.pcAdvance)

/-- `Execute(op, b2, b3, fromLatch)` (R130): a latched instruction is not advanced past (R132, C7). -/
def execute (op b2 b3 : Byte) (fromLatch : Bool) (s : State) : Result :=
  let i := decodeInstr op b2 b3
  exec i (if fromLatch then s else s.advance i)

/-- Do something more to the next state, if there is one. -/
def thenDo (r : Result) (g : State → State) : Result :=
  match r with
  | .next s => .next (g s)
  | .fault e => .fault e
  | .refused e => .refused e

/-- The body of `step()` (R310). -/
def stepBody (s : State) : Result :=
  match s.stepCase with
  | .stopped => .next s
  | .service op b2 b3 => thenDo (execute op b2 b3 true s.enterInterrupt) (State.endStep s.latch.latched)
  | .idle => .next (s.endStep s.latch.latched)
  | .fetch op b2 b3 => thenDo (execute op b2 b3 false s) (State.endStep s.latch.latched)

/-- Store an instruction's bytes where the next step fetches, and see to it that the next step does fetch: the machine runs, is not
halted, and has no interrupt to service. The bytes are placed as the host's load places them, past the write policy (R80, log 4). -/
def State.placeInstruction (b1 b2 b3 : Byte) (s : State) : State :=
  { s with
    mem := ((s.mem.write s.pc.toNat b1).write (s.pc + 1).toNat b2).write (s.pc + 2).toNat b3
    running := true
    stopInfo := if s.running then s.stopInfo else .none
    halted := false
    latch := { s.latch with latched := s.latch.latched && !s.ie } }

end Sys2Proof.Machine
end

