-- ==== Sys2Proof/Machine/Step.lean ====
section
/-! DEFINITION. The step (60_exceptions.md R310), and the placing of one instruction where it fetches. -/

namespace Sys2Proof.Machine

/-- One call of `step()` (R310). The count of cycle units it returns is Machine/Cycles.lean's. -/
def step (s : State) : Host.Outcome State Fault Refusal := stepBody s

/-- `s` with an instruction of `nbits` bits, value `w`, stored where the next step fetches; the bits above `nbits` are zero. -/
def State.withFetchWord (s : State) (nbits w : Nat) : State :=
  let v := w % 2 ^ nbits
  s.placeInstruction (tableByte v 0) (tableByte v 1) (tableByte v 2)

end Sys2Proof.Machine
end

