-- ==== Sys2Proof/Machine/Cycles.lean ====
section
/-! DEFINITION. The count of cycle units `step()` returns (40_dispatch.md R134, 70_reset_and_hazards.md R355), over the open
parameters of Config.lean. No rule of the block reads it. -/

namespace Sys2Proof.Machine

/-- `taken`: the instruction is a conditional jump, call or return, and its condition holds (R134). -/
def State.taken (s : State) (i : Instr) : Bool :=
  match i.condition with
  | some k => condHolds k s.f
  | none => false

/-- The cycle units of executing an opcode and its operand bytes (R130, R134, R135). -/
def executeCycles (op b2 b3 : Byte) (s : State) : Nat :=
  match decodeInstr op b2 b3 with
  | .fatal _ => Config.fatalCycles
  | i => Config.cycleCost op (s.taken i)

/-- What `step()` returns (R310, R355). -/
def stepCycles (s : State) : Nat :=
  match s.stepCase with
  | .stopped => 0
  | .service op b2 b3 => executeCycles op b2 b3 s
  | .idle => Config.haltIdleCycles
  | .fetch op b2 b3 => executeCycles op b2 b3 s

end Sys2Proof.Machine
end

