-- ==== Sys2Proof/Machine/HostActions.lean ====
section
/-! DEFINITION. What the host may do to the block between steps (00_scope.md R6, R7; 60_exceptions.md R327, R329). -/

namespace Sys2Proof.Machine

/-- `raiseInterrupt(op, d1, d2)` overwrites the latch, whatever the state (R303). -/
def State.raiseInterrupt (op d1 d2 : Byte) (s : State) : State :=
  { s with latch := { latched := true, opcode := op, data1 := d1, data2 := d2 } }

/-- `stop()` (R322). -/
def State.hostStop (s : State) : State := { s with running := false, stopInfo := .hostStop }

/-- `bulkLoad(offset, bytes)`: clamped at 65536, past the write policy (R80, D20). -/
def State.bulkLoad (offset : Nat) (bytes : List Byte) (s : State) : State :=
  s.setMem (s.mem.bulkWrite offset bytes)

/-- The host sets the configuration, before the first step (R345). -/
def State.configure (cfg : Config) (s : State) : State := { s with cfg := cfg }

end Sys2Proof.Machine
end

