-- ==== Sys2Proof/Safety.lean ====
section
/-! DEFINITION. The words claims about runs use: the source's four states (10_state.md R49), the ends of a run (60_exceptions.md
R319), the invariant of the state (R40, R50, R51), runs in which the host raises interrupts (R327, R328), and how the statements
say what an instruction changes and leaves alone (40_dispatch.md R137). -/

namespace Sys2Proof.Machine

/-- The source's states, a view of three Booleans (R49, R308). -/
inductive View where
  | stopped | interruptPending | halted | normal
  deriving DecidableEq, Repr

/-- The view of a state (R49). -/
def State.view (s : State) : View :=
  if !s.running then .stopped
  else if s.latch.latched then .interruptPending
  else if s.halted then .halted
  else .normal

/-- A halt no step can end: halted with IE false (R316). -/
def State.permanentHalt (s : State) : Bool := s.halted && !s.ie

/-- A run of the block has ended (R319). -/
def State.ended (s : State) : Bool := !s.running || s.permanentHalt

/-- The reserved bits of a flag byte hold their constants (R40). -/
def flagsOk (f : Byte) : Prop := f.getLsbD 5 = false ∧ f.getLsbD 3 = false ∧ f.getLsbD 1 = true

/-- The invariant of the state: the reserved bits of F are constant (R40), memory is in canonical form (R51), and the machine runs
exactly while there is no stop record (R50). -/
structure State.Inv (s : State) : Prop where
  flags : flagsOk s.f
  memory : s.mem.wf
  stop : s.running = true ↔ s.stopInfo = .none

/-! ## Runs under a raising host -/

/-- Run one step for each entry, the host first raising the interrupt the entry holds, if any (R303, R327, R328). -/
def runRaising : List (Option (Byte × Byte × Byte)) → State → Result
  | [], s => .next s
  | r :: rs, s =>
    let raised := match r with
      | none => s
      | some (op, d1, d2) => s.raiseInterrupt op d1 d2
    match step raised with
    | .next t => runRaising rs t
    | .fault e => .fault e
    | .refused e => .refused e

/-! ## Encoding fields, as numbers -/

/-- The index of a register operand (R30). -/
def regIndex : Reg8 → BitVec 3
  | .b => 0
  | .c => 1
  | .d => 2
  | .e => 3
  | .h => 4
  | .l => 5
  | .m => 6
  | .a => 7

/-- The index of a pair (R34). -/
def pairIndex : Pair → BitVec 2
  | .bc => 0
  | .de => 1
  | .hl => 2
  | .fourth => 3

/-- The index of a condition (R42). -/
def condIndex : Cond → BitVec 3
  | .nz => 0
  | .z => 1
  | .nc => 2
  | .c => 3
  | .po => 4
  | .pe => 5
  | .p => 6
  | .m => 7

/-- What a condition asks of the flags (R42). -/
def condMeans (k : Cond) (f : Byte) : Prop :=
  match k with
  | .nz => flagZ f = false
  | .z => flagZ f = true
  | .nc => flagCY f = false
  | .c => flagCY f = true
  | .po => flagP f = false
  | .pe => flagP f = true
  | .p => flagS f = false
  | .m => flagS f = true

/-! ## What changes and what does not -/

/-- Every byte of memory reads as before. -/
def SameBytes (s t : State) : Prop := ∀ x, t.memRead x = s.memRead x

/-- `t` is `s` with register `r` (not `m`) holding `v`: no other register, flag, byte of memory or other part of the state differs. -/
def OnlyRegister (r : Reg8) (v : Byte) (s t : State) : Prop :=
  t.reg8 r = v ∧ (∀ q, q ≠ .m → q ≠ r → t.reg8 q = s.reg8 q) ∧
  t = { s with b := t.b, c := t.c, d := t.d, e := t.e, h := t.h, l := t.l, a := t.a } ∧ SameBytes s t

/-- `t` is `s` with pair `rp` (SP being the fourth) holding `v`, and nothing else changed. -/
def OnlyPair (rp : Pair) (v : Word) (s t : State) : Prop :=
  t.pair rp .sp = v ∧ (∀ q, q ≠ rp → t.pair q .sp = s.pair q .sp) ∧
  t = { s with b := t.b, c := t.c, d := t.d, e := t.e, h := t.h, l := t.l, sp := t.sp } ∧ SameBytes s t

/-- Nothing changes but A and F. -/
def OnlyAF (s t : State) : Prop := t = { s with a := t.a, f := t.f } ∧ SameBytes s t

/-- The reports that the policy makes of these writes, in order (R77). -/
def rejections (s : State) (ws : List (Word × Byte)) : List HostEvent :=
  (ws.filter fun w => s.isProtected w.1).map fun w => .rejectedWrite w.1 w.2

/-- The memory and the outbox of `t` are those of `s` after the writes `ws`, at different addresses, made in this order under the
write policy (R77, R79): each byte is judged on its own address, and every byte outside the written addresses reads as before. -/
def StoredBytes (ws : List (Word × Byte)) (s t : State) : Prop :=
  (∀ w ∈ ws, t.memRead w.1 = if s.isProtected w.1 then s.memRead w.1 else w.2) ∧
  (∀ x, (∀ w ∈ ws, x ≠ w.1) → t.memRead x = s.memRead x) ∧
  t.outbox = s.outbox ++ rejections s ws

/-- Z, S and P of the flag byte `f` are those of a result (R152, R153, R154). -/
def ResultFlags (f result : Byte) : Prop :=
  (flagZ f = true ↔ result = 0x00#8) ∧ flagS f = result.getLsbD 7 ∧
  (flagP f = true ↔ ((List.range 8).countP fun k => result.getLsbD k) % 2 = 0)

/-- The bits of `f` and `g` at these positions are equal. -/
def SameBits (ks : List Nat) (f g : Byte) : Prop := ∀ k ∈ ks, g.getLsbD k = f.getLsbD k

/-- The instruction answers a next state in which A holds `acc`, the flags are CY, AC and those of `result`, and nothing else has
changed, the reserved bits of F included (R162). -/
def AluEffect (i : Instr) (s : State) (result acc : Byte) (cy ac : Prop) : Prop :=
  ∃ t, exec i s = .next t ∧ t.a = acc ∧ (flagCY t.f = true ↔ cy) ∧ (flagAC t.f = true ↔ ac) ∧
    ResultFlags t.f result ∧ SameBits [1, 3, 5] s.f t.f ∧ OnlyAF s t

end Sys2Proof.Machine
end

