-- ==== Sys2Proof/Certificates/Slice0/Obligations.lean ====
section
/-! DEFINITION. The statements for the provers. Where a statement rests on a choice the spec marks as its own, or on a choice of this
model, its docstring says so. The words they use (OnlyRegister, StoredBytes, AluEffect, …) are Safety.lean's. -/

open Sys2Proof Sys2Proof.Machine

/-! ## Encoding -/

/-- Decoding the bytes of any well-formed instruction gives it back, with what follows it (R100 to R108). R102 gives a fatal
encoding no length: that a `fatal` byte is its whole encoding, with everything after it left over, is the model's choice (log 13). -/
def Obligations.DecodeInvertsEncode : Prop :=
  ∀ i : Instr, i.wf = true → ∀ rest : List Byte, decode (encode i ++ rest) = .ok (i, rest)

/-- The other direction: the bytes of what is decoded are the first bytes given, as many as the opcode's length (R102, R111). For
the 12 fatal bytes, to which R102 gives no length, the length one is the model's choice (log 13). -/
def Obligations.EncodeInvertsDecode : Prop :=
  ∀ op b2 b3 : Byte, encode (decodeInstr op b2 b3) = [op, b2, b3].take (opLength op)

/-- Every byte value selects exactly one instruction or the fatal decode: what is decoded is well formed, and it is the only
well-formed instruction whose bytes begin the three given (R136). That a fatal encoding is its one byte is the model's choice (log 13). -/
def Obligations.DecoderIsTotalAndUnique : Prop :=
  ∀ op b2 b3 : Byte, (decodeInstr op b2 b3).wf = true ∧
    ∀ i : Instr, i.wf = true → encode i <+: [op, b2, b3] → i = decodeInstr op b2 b3

/-- Exactly the 12 listed opcode values are fatal, and 244 are not (R104). -/
def Obligations.FatalOpcodesAreTheTwelve : Prop :=
  (∀ op b2 b3 : Byte, decodeInstr op b2 b3 = .fatal op ↔
    op ∈ [0x08#8, 0x10#8, 0x18#8, 0x20#8, 0x28#8, 0x30#8, 0x38#8, 0xCB#8, 0xD9#8, 0xDD#8, 0xED#8, 0xFD#8]) ∧
  ∀ b2 b3 : Byte, ((List.range 256).countP fun n =>
    decide (decodeInstr (BitVec.ofNat 8 n) b2 b3 ≠ .fatal (BitVec.ofNat 8 n))) = 244

/-- One word of each family, written out from the encodings of spec/, decodes to the instruction it stands for. -/
def Obligations.SampleWordsDecode : Prop :=
  decodeInstr 0b01111000#8 0 0 = .movAB ∧ decodeInstr 0b00111110#8 0x05#8 0 = .mviA 0x05#8 ∧
  decodeInstr 0b00110001#8 0x00#8 0x24#8 = .lxiSp 0x2400#16 ∧ decodeInstr 0b10011110#8 0 0 = .sbbM ∧
  decodeInstr 0b11100110#8 0x0F#8 0 = .ani 0x0F#8 ∧ decodeInstr 0b00011111#8 0 0 = .rar ∧
  decodeInstr 0b11011100#8 0x00#8 0x03#8 = .cc 0x0300#16 ∧ decodeInstr 0b11110001#8 0 0 = .popPsw ∧
  decodeInstr 0b11011011#8 0x01#8 0 = .inp 0x01#8 ∧ decodeInstr 0b11101101#8 0 0 = .fatal 0xED#8

/-! ## The step -/

/-- `step()` is R310's: stopped, or the latched instruction under IE, or idle in halt, or the instruction fetched at `pc`; the latch
is emptied at the end; and what it returns is the count of R355. That IE and `halted` are cleared before the latched instruction runs,
that it leaves `pc` unadvanced, and that a disabled interrupt is dropped by an idle step, are the spec's decisions D15, D10 and D16. A
stopped machine's step answering the same state is the model's reading of R317 and D18 (log 7). -/
def Obligations.StepFollowsItsBranches : Prop :=
  ∀ s : State,
    let finish : State → State := fun t =>
      if s.latch.latched then { t with latch := { t.latch with latched := false } } else t
    (s.running = false → step s = .next s ∧ stepCycles s = 0) ∧
    (s.running = true → s.latch.latched = true → s.ie = true →
      let i := decodeInstr s.latch.opcode s.latch.data1 s.latch.data2
      step s = thenDo (exec i { s with ie := false, halted := false }) finish ∧
        stepCycles s = executeCycles s.latch.opcode s.latch.data1 s.latch.data2 s) ∧
    (s.running = true → ¬(s.latch.latched = true ∧ s.ie = true) → s.halted = true →
      step s = .next (finish s) ∧ stepCycles s = Config.haltIdleCycles) ∧
    (s.running = true → ¬(s.latch.latched = true ∧ s.ie = true) → s.halted = false →
      let i := decodeInstr (s.memRead s.pc) (s.memRead (s.pc + 1)) (s.memRead (s.pc + 2))
      step s = thenDo (exec i { s with pc := s.pc + BitVec.ofNat 16 i.pcAdvance }) finish ∧
        stepCycles s = executeCycles (s.memRead s.pc) (s.memRead (s.pc + 1)) (s.memRead (s.pc + 2)) s)

/-- A step runs the decoded instruction: where the bytes at `pc` are those of a well-formed instruction, and the step fetches, the step
is that instruction's `exec` after the advance of `pc` by its length (by nothing for a fatal byte, the spec's D17), then the end of the
step. That a fatal encoding is its one byte is the model's choice (log 13). -/
def Obligations.StepRunsTheInstructionAtPc : Prop :=
  ∀ (s : State) (i : Instr), i.wf = true → s.running = true → s.halted = false →
    ¬(s.latch.latched = true ∧ s.ie = true) →
    (∀ (k : Nat) (hk : k < (encode i).length), s.memRead (s.pc + BitVec.ofNat 16 k) = (encode i)[k]) →
    let advance : Nat := match i with
      | .fatal _ => 0
      | i => (encode i).length
    step s = thenDo (exec i { s with pc := s.pc + BitVec.ofNat 16 advance })
      fun t => if s.latch.latched then { t with latch := { t.latch with latched := false } } else t

/-- No state makes a step fault or be refused. This is the model's reading: a fatal decode, which 93_implementation_defined.md lists
as a fault that stops the block, is a next state with `running` false (log 6), and a stopped machine's step, which it lists as stuck
(D18), answers the same state (log 7). -/
def Obligations.EveryStepAnswersANextState : Prop := ∀ s : State, ∃ t, step s = .next t

/-- Every step of a running machine ends with the latch empty, whatever happened in it (R305). -/
def Obligations.StepEmptiesTheLatch : Prop :=
  ∀ s : State, s.running = true → ∃ t, step s = .next t ∧ t.latch.latched = false

/-- An interrupt latched while IE is false is dropped at the end of the step: the step is the one that an empty latch gives (R306), the
host giving an `IN` the same answer in both (the model's log 2); a halted machine stays idle (the spec's D16). -/
def Obligations.DisabledInterruptIsDropped : Prop :=
  ∀ s : State, s.running = true → s.latch.latched = true → s.ie = false →
    step s = step { s with latch := { s.latch with latched := false } } ∧
    ∃ t, step s = .next t ∧ t.latch.latched = false

/-- Only the servicing of an enabled, pending interrupt clears `halted` (R46, R308). -/
def Obligations.HaltedIsClearedOnlyByServicing : Prop :=
  ∀ s t : State, step s = .next t → s.halted = true → t.halted = false →
    s.running = true ∧ s.latch.latched = true ∧ s.ie = true

/-- Which instructions touch the control state: IE only EI and DI (R47, R304), `halted` only HLT (R46), `running` and the stop record
only a fatal opcode (R48, R50), and the latch and the configuration none (R44, R52). -/
def Obligations.ControlStateIsChangedOnlyByName : Prop :=
  ∀ (i : Instr) (s t : State), exec i s = .next t →
    (i ≠ .ei → i ≠ .di → t.ie = s.ie) ∧ (i ≠ .hlt → t.halted = s.halted) ∧
    ((∀ op, i ≠ .fatal op) → t.running = s.running ∧ t.stopInfo = s.stopInfo) ∧
    t.latch = s.latch ∧ t.cfg = s.cfg

/-- A fatal opcode stops the machine (R135, D17): `exec` answers the state with `running` false and the stop record, and nothing else
changed; so does the step that fetches it, `pc` not advanced, and the step that services it, with the top-of-step effects (C10). That
this stop is a next state of the model is its reading (log 6). -/
def Obligations.FatalOpcodeStopsTheMachine : Prop :=
  ∀ (s : State) (op : Byte), op ∈ fatalOpcodes →
    exec (.fatal op) s = .next { s with running := false, stopInfo := .fatalOpcode s.pc op } ∧
    (s.running = true → s.halted = false → s.latch.latched = false → s.memRead s.pc = op →
      step s = .next { s with running := false, stopInfo := .fatalOpcode s.pc op } ∧ stepCycles s = 0) ∧
    (s.running = true → s.latch.latched = true → s.ie = true → s.latch.opcode = op →
      step s = .next { s with running := false, stopInfo := .fatalOpcode s.pc op, ie := false, halted := false,
                              latch := { s.latch with latched := false } } ∧ stepCycles s = 0)

/-- A step clears `running` only by a fatal decode, and then changes no register, flag, `pc`, `SP` or byte of memory. That the stop
is a next state is the model's reading (log 6); what it records is the spec's D17. -/
def Obligations.OnlyAFatalDecodeStopsAStep : Prop :=
  ∀ s t : State, step s = .next t → s.running = true → t.running = false →
    ∃ op, op ∈ fatalOpcodes ∧
      t = { s with running := false, stopInfo := .fatalOpcode s.pc op,
                   latch := t.latch, ie := t.ie, halted := t.halted }

/-- A stopped machine (R317; D18), and one halted with IE false (R316), stays as it is for ever, whatever interrupts the host raises
between the steps: only the latch changes. That a stopped machine's step answers its own state is the model's reading (log 7), that
raises stand between steps its choice (log 11). -/
def Obligations.EndedRunsStayEnded : Prop :=
  ∀ (raises : List (Option (Byte × Byte × Byte))) (s : State), s.ended = true →
    ∃ latch, runRaising raises s = .next { s with latch := latch }

/-- Interrupt entry by `RST n` (R311; the order is the spec's D15, the unadvanced `pc` its D10): IE and `halted` cleared, the unadvanced
`pc` pushed, and the handler's address in `pc`. -/
def Obligations.LatchedRstEntersItsHandler : Prop :=
  ∀ (s : State) (n : BitVec 3), s.running = true → s.latch.latched = true → s.ie = true →
    s.latch.opcode = 0b11#2 ++ n ++ 0b111#3 →
    ∃ t, step s = .next t ∧ t.pc = BitVec.ofNat 16 (8 * n.toNat) ∧ t.sp = s.sp - 2 ∧ t.ie = false ∧ t.halted = false ∧
      t.latch = { s.latch with latched := false } ∧
      StoredBytes [(s.sp - 1, s.pc.extractLsb' 8 8), (s.sp - 2, s.pc.extractLsb' 0 8)] s t ∧
      t = { s with pc := t.pc, sp := t.sp, ie := t.ie, halted := t.halted, latch := t.latch,
                   mem := t.mem, outbox := t.outbox }

/-- An executed instruction costs `CycleCost(op, taken)`, `taken` being true for a conditional jump, call or return whose condition
held and false otherwise (R134). -/
def Obligations.ExecutedInstructionCostsItsCycles : Prop :=
  ∀ (s : State) (op b2 b3 : Byte) (taken : Bool), op ∉ fatalOpcodes →
    (taken = true ↔
      (op.extractLsb' 6 2 = 3 ∧ (op.extractLsb' 0 3 = 0 ∨ op.extractLsb' 0 3 = 2 ∨ op.extractLsb' 0 3 = 4)) ∧
      ∃ k, condIndex k = op.extractLsb' 3 3 ∧ condMeans k s.f) →
    executeCycles op b2 b3 s = Config.cycleCost op taken

/-! ## Invariant, reset and the host -/

/-- Every step keeps the invariant: the reserved bits of F (R40), the canonical form of memory, and `running` with the stop record
(R50). -/
def Obligations.StepKeepsTheInvariant : Prop := ∀ s t : State, s.Inv → step s = .next t → t.Inv

/-- The state at creation meets the invariant. -/
def Obligations.ResetMeetsTheInvariant : Prop := State.reset.Inv

/-- Whatever the host does between steps keeps the invariant (R327, R329). -/
def Obligations.HostActionsKeepTheInvariant : Prop :=
  ∀ s : State, s.Inv →
    (∀ op d1 d2, (s.raiseInterrupt op d1 d2).Inv) ∧ s.hostStop.Inv ∧ (∀ off bytes, (s.bulkLoad off bytes).Inv) ∧
    ∀ cfg, (s.configure cfg).Inv

/-- The values at creation (R55). `running` is true by D19, the bit of F that is set is D3's, and a stop record of none is D17's; the
configuration is R8's defaults, of which those that say which AND form tracks AC are the spec's decision D6 (log 17). -/
def Obligations.ResetValues : Prop :=
  let s := State.reset
  s.a = 0 ∧ s.b = 0 ∧ s.c = 0 ∧ s.d = 0 ∧ s.e = 0 ∧ s.h = 0 ∧ s.l = 0 ∧ s.f = 0x02#8 ∧ s.sp = 0 ∧ s.pc = 0 ∧
  (∀ x, s.memRead x = 0) ∧ s.latch.latched = false ∧ s.latch.opcode = 0 ∧ s.latch.data1 = 0 ∧ s.latch.data2 = 0 ∧
  s.halted = false ∧ s.ie = false ∧ s.running = true ∧ s.stopInfo = .none ∧
  s.cfg.writeProtectEnabled = false ∧ s.cfg.anaTracksAc = true ∧ s.cfg.aniTracksAc = false

/-- `raiseInterrupt` overwrites the latch and changes nothing else (R303). -/
def Obligations.RaiseOverwritesTheLatchOnly : Prop :=
  ∀ (s : State) (op d1 d2 : Byte), s.raiseInterrupt op d1 d2 =
    { s with latch := { latched := true, opcode := op, data1 := d1, data2 := d2 } }

/-- `bulkLoad` writes each byte at its offset below 65536, past the write policy, and changes nothing else (R80; the clamping and the
bypass are the spec's D20). -/
def Obligations.BulkLoadWritesItsBytes : Prop :=
  ∀ (s : State) (off : Nat) (bytes : List Byte),
    (∀ (k : Nat) (hk : k < bytes.length), off + k < 65536 →
      (s.bulkLoad off bytes).memRead (BitVec.ofNat 16 (off + k)) = bytes[k]) ∧
    (∀ x : Word, x.toNat < off ∨ off + bytes.length ≤ x.toNat → (s.bulkLoad off bytes).memRead x = s.memRead x) ∧
    s.bulkLoad off bytes = { s with mem := (s.bulkLoad off bytes).mem }

/-- A byte write under the policy (R77, R79; "below" as strictly lower is D21): while the policy is on and the address is below the
limit the byte is reported and no byte changes; otherwise the byte is written and no other changes. -/
def Obligations.WritePolicyJudgesEachByte : Prop :=
  ∀ (s : State) (x : Word) (v : Byte),
    (s.cfg.writeProtectEnabled = true → x.toNat < s.cfg.writeProtectLimit.toNat →
      s.memWrite x v = { s with outbox := s.outbox ++ [.rejectedWrite x v] }) ∧
    ((s.cfg.writeProtectEnabled = false ∨ s.cfg.writeProtectLimit.toNat ≤ x.toNat) →
      (s.memWrite x v).memRead x = v ∧ (∀ y, y ≠ x → (s.memWrite x v).memRead y = s.memRead y) ∧
      s.memWrite x v = { s with mem := (s.memWrite x v).mem })

/-- The register accessors (R30, R32, R34, R35): `M` is the byte at `{H, L}`; a pair is high then low; the fourth is SP or A:F (D2); and a
value written to a pair is read back, but for the reserved bits of F (forcing all three is D4); and where the flags stand in F (R39,
the spec's D3). -/
def Obligations.OperandAccessorsFollowTheTables : Prop :=
  ∀ s : State,
    s.reg8 .b = s.b ∧ s.reg8 .c = s.c ∧ s.reg8 .d = s.d ∧ s.reg8 .e = s.e ∧ s.reg8 .h = s.h ∧ s.reg8 .l = s.l ∧
    s.reg8 .a = s.a ∧ s.reg8 .m = s.memRead (s.h ++ s.l) ∧
    (∀ k, s.pair .bc k = s.b ++ s.c ∧ s.pair .de k = s.d ++ s.e ∧ s.pair .hl k = s.h ++ s.l) ∧
    s.pair .fourth .sp = s.sp ∧ s.pair .fourth .psw = s.a ++ s.f ∧
    flagS s.f = s.f.getLsbD 7 ∧ flagZ s.f = s.f.getLsbD 6 ∧ flagAC s.f = s.f.getLsbD 4 ∧ flagP s.f = s.f.getLsbD 2 ∧
    flagCY s.f = s.f.getLsbD 0 ∧
    ∀ rp k v, (s.setPair rp k v).pair rp k =
      if rp = .fourth ∧ k = .psw then (v &&& 0xFFD7#16) ||| 0x0002#16 else v

/-! ## Data transfer -/

/-- `MOV r1,r2` and `MOV r,M` (R180, R181): `01dddsss`, into a register; nothing else changes. -/
def Obligations.MovIntoRegister : Prop :=
  ∀ (s : State) (r1 r2 : Reg8), r1 ≠ .m →
    encode (Asm.mov r1 r2) = [0b01#2 ++ regIndex r1 ++ regIndex r2] ∧
    ∃ t, exec (Asm.mov r1 r2) s = .next t ∧ OnlyRegister r1 (if r2 = .m then s.memRead (s.h ++ s.l) else s.reg8 r2) s t

/-- `MVI r,d8` (R183): `00ddd110 d8`; nothing else changes. -/
def Obligations.MviIntoRegister : Prop :=
  ∀ (s : State) (r : Reg8) (d8 : Byte), r ≠ .m →
    encode (Asm.mvi r d8) = [0b00#2 ++ regIndex r ++ 0b110#3, d8] ∧
    ∃ t, exec (Asm.mvi r d8) s = .next t ∧ OnlyRegister r d8 s t

/-- `MOV M,r` and `MVI M,d8` (R182, R184) store one byte at `{H, L}` under the write policy; the `MOV M,M` encoding is `HLT`. -/
def Obligations.MovAndMviToMemory : Prop :=
  ∀ s : State,
    (∀ r : Reg8, r ≠ .m → encode (Asm.mov .m r) = [0b01110#5 ++ regIndex r] ∧
      ∃ t, exec (Asm.mov .m r) s = .next t ∧ StoredBytes [(s.h ++ s.l, s.reg8 r)] s t ∧
        t = { s with mem := t.mem, outbox := t.outbox }) ∧
    ∀ d8 : Byte, encode (.mviM d8) = [0b00110110#8, d8] ∧
      (∃ t, exec (.mviM d8) s = .next t ∧ StoredBytes [(s.h ++ s.l, d8)] s t ∧
        t = { s with mem := t.mem, outbox := t.outbox }) ∧
      ∀ b2 b3 : Byte, decodeInstr (0b01110#5 ++ regIndex .m) b2 b3 = .hlt

/-- `LXI rp,d16` (R185): `00pp0001 lo hi`, the fourth pair being SP. -/
def Obligations.LxiLoadsThePair : Prop :=
  ∀ (s : State) (rp : Pair) (lo hi : Byte),
    encode (Asm.lxi rp (hi ++ lo)) = [0b00#2 ++ pairIndex rp ++ 0b0001#4, lo, hi] ∧
    ∃ t, exec (Asm.lxi rp (hi ++ lo)) s = .next t ∧ OnlyPair rp (hi ++ lo) s t

/-- `LDAX rp` and `STAX rp` (R190, R191): A from, and to, the byte that BC or DE addresses. -/
def Obligations.LdaxAndStaxUseThePair : Prop :=
  ∀ s : State,
    (encode .ldaxB = [0b00001010#8] ∧ ∃ t, exec .ldaxB s = .next t ∧ OnlyRegister .a (s.memRead (s.b ++ s.c)) s t) ∧
    (encode .ldaxD = [0b00011010#8] ∧ ∃ t, exec .ldaxD s = .next t ∧ OnlyRegister .a (s.memRead (s.d ++ s.e)) s t) ∧
    (encode .staxB = [0b00000010#8] ∧ ∃ t, exec .staxB s = .next t ∧ StoredBytes [(s.b ++ s.c, s.a)] s t ∧
      t = { s with mem := t.mem, outbox := t.outbox }) ∧
    (encode .staxD = [0b00010010#8] ∧ ∃ t, exec .staxD s = .next t ∧ StoredBytes [(s.d ++ s.e, s.a)] s t ∧
      t = { s with mem := t.mem, outbox := t.outbox }) ∧
    decodeInstr 0b00101010#8 0 0 = .lhld 0 ∧ decodeInstr 0b00111010#8 0 0 = .lda 0 ∧
    decodeInstr 0b00100010#8 0 0 = .shld 0 ∧ decodeInstr 0b00110010#8 0 0 = .sta 0

/-- `LDA` and `STA` (R186, R187; the spec's decision D1): A from, and to, the byte at `a16`. -/
def Obligations.LdaAndStaUseTheAddress : Prop :=
  ∀ (s : State) (lo hi : Byte),
    encode (.lda (hi ++ lo)) = [0b00111010#8, lo, hi] ∧ encode (.sta (hi ++ lo)) = [0b00110010#8, lo, hi] ∧
    (∃ t, exec (.lda (hi ++ lo)) s = .next t ∧ OnlyRegister .a (s.memRead (hi ++ lo)) s t) ∧
    ∃ t, exec (.sta (hi ++ lo)) s = .next t ∧ StoredBytes [(hi ++ lo, s.a)] s t ∧
      t = { s with mem := t.mem, outbox := t.outbox }

/-- `LHLD` and `SHLD` (R188, R189; the spec's decision D1): L at `a16`, H at `a16 + 1`, wrapping at 0xFFFF (D12); each byte stored is
judged on its own. -/
def Obligations.LhldAndShldMoveHl : Prop :=
  ∀ (s : State) (lo hi : Byte),
    encode (.lhld (hi ++ lo)) = [0b00101010#8, lo, hi] ∧ encode (.shld (hi ++ lo)) = [0b00100010#8, lo, hi] ∧
    exec (.lhld (hi ++ lo)) s = .next { s with l := s.memRead (hi ++ lo), h := s.memRead ((hi ++ lo) + 1) } ∧
    ∃ t, exec (.shld (hi ++ lo)) s = .next t ∧
      StoredBytes [(hi ++ lo, s.l), ((hi ++ lo) + 1, s.h)] s t ∧ t = { s with mem := t.mem, outbox := t.outbox }

/-- `XCHG` (R192, general knowledge by the spec's mark, D1) exchanges DE and HL, and twice restores both. -/
def Obligations.XchgSwapsDeAndHl : Prop :=
  encode .xchg = [0b11101011#8] ∧
  ∀ s : State, exec .xchg s = .next { s with d := s.h, e := s.l, h := s.d, l := s.e } ∧
    exec .xchg { s with d := s.h, e := s.l, h := s.d, l := s.e } = .next s

/-! ## Arithmetic and logic -/

/-- ADD, ADC, ADI, ACI (R156, R200 to R203, R216, R217), with every operand: the sum modulo 256, carry out of bit 7 and out of bit 3. -/
def Obligations.AddFormsAddWithCarry : Prop :=
  ∀ s : State,
    let adds : Instr → Byte → Nat → Prop := fun i x c =>
      AluEffect i s (BitVec.ofNat 8 (s.a.toNat + x.toNat + c)) (BitVec.ofNat 8 (s.a.toNat + x.toNat + c))
        (s.a.toNat + x.toNat + c > 255) (s.a.toNat % 16 + x.toNat % 16 + c > 15)
    (∀ r, encode (Asm.aluReg .add r) = [0b10000#5 ++ regIndex r] ∧ adds (Asm.aluReg .add r) (s.reg8 r) 0) ∧
    (∀ r, encode (Asm.aluReg .adc r) = [0b10001#5 ++ regIndex r] ∧
      adds (Asm.aluReg .adc r) (s.reg8 r) (flagCY s.f).toNat) ∧
    (∀ d8, encode (.adi d8) = [0b11000110#8, d8] ∧ adds (.adi d8) d8 0) ∧
    (∀ d8, encode (.aci d8) = [0b11001110#8, d8] ∧ adds (.aci d8) d8 (flagCY s.f).toNat)

/-- SUB, SBB, SUI, SBI (R157, R204 to R207, R218, R219), with every operand: the difference modulo 256 and the borrow. That AC is the
borrow out of the low nibble is the spec's decision D5 (C6). -/
def Obligations.SubtractFormsBorrow : Prop :=
  ∀ s : State,
    let subs : Instr → Byte → Nat → Prop := fun i x c =>
      AluEffect i s (BitVec.ofInt 8 (s.a.toNat - x.toNat - c)) (BitVec.ofInt 8 (s.a.toNat - x.toNat - c))
        (x.toNat + c > s.a.toNat) (s.a.toNat % 16 < x.toNat % 16 + c)
    (∀ r, encode (Asm.aluReg .sub r) = [0b10010#5 ++ regIndex r] ∧ subs (Asm.aluReg .sub r) (s.reg8 r) 0) ∧
    (∀ r, encode (Asm.aluReg .sbb r) = [0b10011#5 ++ regIndex r] ∧
      subs (Asm.aluReg .sbb r) (s.reg8 r) (flagCY s.f).toNat) ∧
    (∀ d8, encode (.sui d8) = [0b11010110#8, d8] ∧ subs (.sui d8) d8 0) ∧
    (∀ d8, encode (.sbi d8) = [0b11011110#8, d8] ∧ subs (.sbi d8) d8 (flagCY s.f).toNat)

/-- CMP and CPI (R160, R214, R215, R223): the flags of the subtraction, A kept (AC by D5). -/
def Obligations.CompareKeepsA : Prop :=
  ∀ s : State,
    let compares : Instr → Byte → Prop := fun i x =>
      AluEffect i s (BitVec.ofInt 8 (s.a.toNat - x.toNat)) s.a (x.toNat > s.a.toNat) (s.a.toNat % 16 < x.toNat % 16)
    (∀ r, encode (Asm.aluReg .cmp r) = [0b10111#5 ++ regIndex r] ∧ compares (Asm.aluReg .cmp r) (s.reg8 r)) ∧
    ∀ d8, encode (.cpi d8) = [0b11111110#8, d8] ∧ compares (.cpi d8) d8

/-- ANA and ANI (R158, R208, R209, R220): CY cleared; AC from bit 3 of both operands in the forms the configuration says track it. Which
form tracks by default is the spec's decision D6; the statement holds for both settings of both. -/
def Obligations.AndFormsTrackAcAsConfigured : Prop :=
  ∀ s : State,
    let ands : Instr → Byte → Bool → Prop := fun i x track =>
      AluEffect i s (s.a &&& x) (s.a &&& x) False (track = true ∧ (s.a.getLsbD 3 = true ∨ x.getLsbD 3 = true))
    (∀ r, encode (Asm.aluReg .ana r) = [0b10100#5 ++ regIndex r] ∧
      ands (Asm.aluReg .ana r) (s.reg8 r) s.cfg.anaTracksAc) ∧
    ∀ d8, encode (.ani d8) = [0b11100110#8, d8] ∧ ands (.ani d8) d8 s.cfg.aniTracksAc

/-- XRA, XRI, ORA, ORI (R159, R210 to R213, R221, R222): CY cleared, and AC cleared by the spec's decision D7. -/
def Obligations.XorAndOrFormsClearCarries : Prop :=
  ∀ s : State,
    let gives : Instr → Byte → Prop := fun i v => AluEffect i s v v False False
    (∀ r, encode (Asm.aluReg .xra r) = [0b10101#5 ++ regIndex r] ∧ gives (Asm.aluReg .xra r) (s.a ^^^ s.reg8 r)) ∧
    (∀ r, encode (Asm.aluReg .ora r) = [0b10110#5 ++ regIndex r] ∧ gives (Asm.aluReg .ora r) (s.a ||| s.reg8 r)) ∧
    (∀ d8, encode (.xri d8) = [0b11101110#8, d8] ∧ gives (.xri d8) (s.a ^^^ d8)) ∧
    ∀ d8, encode (.ori d8) = [0b11110110#8, d8] ∧ gives (.ori d8) (s.a ||| d8)

/-- INR and DCR (R224 to R227; the flag rules are the spec's decision D8): every operand, CY kept; `INR M` and `DCR M` store under the
write policy and write the flags all the same. -/
def Obligations.InrAndDcrCount : Prop :=
  ∀ (s : State) (r : Reg8),
    let counts : Instr → Byte → Prop → Prop := fun i v ac =>
      ∃ t, exec i s = .next t ∧ (flagAC t.f = true ↔ ac) ∧ ResultFlags t.f v ∧ SameBits [0, 1, 3, 5] s.f t.f ∧
        (r ≠ .m → OnlyRegister r v s { t with f := s.f }) ∧
        (r = .m → StoredBytes [(s.h ++ s.l, v)] s t ∧ t = { s with f := t.f, mem := t.mem, outbox := t.outbox })
    (encode (Asm.inr r) = [0b00#2 ++ regIndex r ++ 0b100#3] ∧
      counts (Asm.inr r) (s.reg8 r + 1) ((s.reg8 r).toNat % 16 = 15)) ∧
    encode (Asm.dcr r) = [0b00#2 ++ regIndex r ++ 0b101#3] ∧
      counts (Asm.dcr r) (s.reg8 r - 1) ((s.reg8 r).toNat % 16 = 0)

/-- INX and DCX (R228, R229): the pair modulo 65536, no flag (that they write none is the spec's decision D1). -/
def Obligations.InxAndDcxCountPairs : Prop :=
  ∀ (s : State) (rp : Pair),
    (encode (Asm.inx rp) = [0b00#2 ++ pairIndex rp ++ 0b0011#4] ∧
      ∃ t, exec (Asm.inx rp) s = .next t ∧ OnlyPair rp (BitVec.ofNat 16 ((s.pair rp .sp).toNat + 1)) s t) ∧
    encode (Asm.dcx rp) = [0b00#2 ++ pairIndex rp ++ 0b1011#4] ∧
      ∃ t, exec (Asm.dcx rp) s = .next t ∧ OnlyPair rp (BitVec.ofInt 16 ((s.pair rp .sp).toNat - 1)) s t

/-- DAD (R165, R230; the spec's decision D1): HL plus the pair modulo 65536, CY the carry out of bit 15, no other flag. -/
def Obligations.DadAddsThePair : Prop :=
  ∀ (s : State) (rp : Pair),
    encode (Asm.dad rp) = [0b00#2 ++ pairIndex rp ++ 0b1001#4] ∧
    ∃ t, exec (Asm.dad rp) s = .next t ∧
      (t.h ++ t.l).toNat = ((s.h ++ s.l).toNat + (s.pair rp .sp).toNat) % 65536 ∧
      (flagCY t.f = true ↔ (s.h ++ s.l).toNat + (s.pair rp .sp).toNat > 65535) ∧
      SameBits [1, 2, 3, 4, 5, 6, 7] s.f t.f ∧ t = { s with h := t.h, l := t.l, f := t.f } ∧ SameBytes s t

/-- DAA (R166, R167): the two adjustments in order. That nothing changes when neither runs, and that the second test reads what the
first left, are the spec's decision D9. -/
def Obligations.DaaAdjustsTwice : Prop :=
  encode .daa = [0b00100111#8] ∧
  ∀ s : State,
    let low : Prop := s.a.toNat % 16 > 9 ∨ flagAC s.f = true
    ∃ a1 : Nat, (low → a1 = (s.a.toNat + 6) % 256) ∧ (¬low → a1 = s.a.toNat) ∧
    let cy1 : Prop := flagCY s.f = true ∨ (low ∧ s.a.toNat + 6 > 255)
    let high : Prop := a1 / 16 > 9 ∨ cy1
    ∃ t, exec .daa s = .next t ∧ OnlyAF s t ∧ SameBits [1, 3, 5] s.f t.f ∧
      (high → t.a.toNat = (a1 + 96) % 256) ∧ (¬high → t.a.toNat = a1) ∧
      (flagCY t.f = true ↔ cy1 ∨ (high ∧ a1 + 96 > 255)) ∧
      (low ∨ high → ResultFlags t.f t.a ∧ (flagAC t.f = true ↔ ¬high ∧ s.a.toNat % 16 + 6 > 15)) ∧
      (¬low ∧ ¬high → t.f = s.f)

/-- Adding two packed decimals with `ADI` and then `DAA` gives the packed decimal sum, with CY the hundreds. -/
def Obligations.DaaCorrectsDecimalAddition : Prop :=
  ∀ (s : State) (x1 x0 y1 y0 : Nat), x1 ≤ 9 → x0 ≤ 9 → y1 ≤ 9 → y0 ≤ 9 → s.a = BitVec.ofNat 8 (16 * x1 + x0) →
    ∃ t u, exec (.adi (BitVec.ofNat 8 (16 * y1 + y0))) s = .next t ∧ exec .daa t = .next u ∧
      ∃ hundreds tens ones : Nat, tens ≤ 9 ∧ ones ≤ 9 ∧
        100 * hundreds + 10 * tens + ones = 10 * x1 + x0 + (10 * y1 + y0) ∧
        u.a.toNat = 16 * tens + ones ∧ (flagCY u.f).toNat = hundreds

/-! ## Rotates, complement and carry -/

/-- RLC, RRC, RAL, RAR (R235 to R238; the spec's decision D1): A rotated, by itself or through CY; no flag but CY. -/
def Obligations.RotatesMoveOneBit : Prop :=
  ∀ s : State,
    let gives : Instr → Byte → Bool → Prop := fun i v cy =>
      ∃ t, exec i s = .next t ∧ t.a = v ∧ flagCY t.f = cy ∧ SameBits [1, 2, 3, 4, 5, 6, 7] s.f t.f ∧ OnlyAF s t
    let carry : BitVec 1 := BitVec.ofBool (flagCY s.f)
    (encode .rlc = [0b00000111#8] ∧ gives .rlc (s.a.extractLsb' 0 7 ++ s.a.extractLsb' 7 1) (s.a.getLsbD 7)) ∧
    (encode .rrc = [0b00001111#8] ∧ gives .rrc (s.a.extractLsb' 0 1 ++ s.a.extractLsb' 1 7) (s.a.getLsbD 0)) ∧
    (encode .ral = [0b00010111#8] ∧ gives .ral (s.a.extractLsb' 0 7 ++ carry) (s.a.getLsbD 7)) ∧
    (encode .rar = [0b00011111#8] ∧ gives .rar (carry ++ s.a.extractLsb' 1 7) (s.a.getLsbD 0))

/-- CMA, STC, CMC (R239 to R241; the spec's decision D1): no flag but CY, and CMA none. -/
def Obligations.ComplementAndCarry : Prop :=
  encode .cma = [0b00101111#8] ∧ encode .stc = [0b00110111#8] ∧ encode .cmc = [0b00111111#8] ∧
  ∀ s : State, exec .cma s = .next { s with a := ~~~s.a } ∧
    (∃ t, exec .stc s = .next t ∧ flagCY t.f = true ∧ SameBits [1, 2, 3, 4, 5, 6, 7] s.f t.f ∧
      t = { s with f := t.f }) ∧
    ∃ t, exec .cmc s = .next t ∧ flagCY t.f = !flagCY s.f ∧ SameBits [1, 2, 3, 4, 5, 6, 7] s.f t.f ∧
      t = { s with f := t.f }

/-- Nine `RAL` restore A and CY, and so the whole state (R237; the spec's decision D1). -/
def Obligations.NineRalRestoreTheState : Prop :=
  ∀ s : State,
    let ral : Result → Result := fun r => match r with
      | .next t => exec .ral t
      | r => r
    ral^[9] (.next s) = .next s

/-! ## Control transfer -/

/-- JMP, PCHL, CALL, RST and RET (R84, R85, R245, R247, R249, R251, R252; those but RST are the spec's decision D1): the target in
`pc`; a call puts the high byte of `pc` at SP-1, then the low byte at SP-2, and SP is less by 2; RET undoes it. -/
def Obligations.UnconditionalTransfersSetPc : Prop :=
  ∀ s : State,
    let calls : Instr → Word → Prop := fun i target =>
      ∃ t, exec i s = .next t ∧ t.pc = target ∧ t.sp = s.sp - 2 ∧
        StoredBytes [(s.sp - 1, s.pc.extractLsb' 8 8), (s.sp - 2, s.pc.extractLsb' 0 8)] s t ∧
        t = { s with pc := t.pc, sp := t.sp, mem := t.mem, outbox := t.outbox }
    (encode .pchl = [0b11101001#8] ∧ exec .pchl s = .next { s with pc := s.h ++ s.l }) ∧
    (encode .ret = [0b11001001#8] ∧
      exec .ret s = .next { s with pc := s.memRead (s.sp + 1) ++ s.memRead s.sp, sp := s.sp + 2 }) ∧
    (∀ n : BitVec 3, encode (Asm.rst n) = [0b11#2 ++ n ++ 0b111#3] ∧
      calls (Asm.rst n) (BitVec.ofNat 16 (8 * n.toNat))) ∧
    ∀ lo hi : Byte,
      (encode (.jmp (hi ++ lo)) = [0b11000011#8, lo, hi] ∧ exec (.jmp (hi ++ lo)) s = .next { s with pc := hi ++ lo }) ∧
      encode (.call (hi ++ lo)) = [0b11001101#8, lo, hi] ∧ calls (.call (hi ++ lo)) (hi ++ lo)

/-- Jcc, Ccc and Rcc (R246, R248, R250): where the condition holds, a jump, a call (the bytes of `pc` pushed) or a return; where it does
not, nothing changes, no byte of the stack is touched; and `taken` is the condition. -/
def Obligations.ConditionalTransfersTestTheirFlag : Prop :=
  ∀ (s : State) (k : Cond) (lo hi : Byte),
    let a16 : Word := hi ++ lo
    encode (Asm.jcc k a16) = [0b11#2 ++ condIndex k ++ 0b010#3, lo, hi] ∧
    encode (Asm.ccc k a16) = [0b11#2 ++ condIndex k ++ 0b100#3, lo, hi] ∧
    encode (Asm.rcc k) = [0b11#2 ++ condIndex k ++ 0b000#3] ∧
    (condMeans k s.f →
      exec (Asm.jcc k a16) s = .next { s with pc := a16 } ∧
      exec (Asm.rcc k) s = .next { s with pc := s.memRead (s.sp + 1) ++ s.memRead s.sp, sp := s.sp + 2 } ∧
      (∃ t, exec (Asm.ccc k a16) s = .next t ∧ t.pc = a16 ∧ t.sp = s.sp - 2 ∧
        StoredBytes [(s.sp - 1, s.pc.extractLsb' 8 8), (s.sp - 2, s.pc.extractLsb' 0 8)] s t ∧
        t = { s with pc := t.pc, sp := t.sp, mem := t.mem, outbox := t.outbox }) ∧
      s.taken (Asm.jcc k a16) = true ∧ s.taken (Asm.ccc k a16) = true ∧ s.taken (Asm.rcc k) = true) ∧
    (¬condMeans k s.f →
      exec (Asm.jcc k a16) s = .next s ∧ exec (Asm.ccc k a16) s = .next s ∧ exec (Asm.rcc k) s = .next s ∧
      s.taken (Asm.jcc k a16) = false ∧ s.taken (Asm.ccc k a16) = false ∧ s.taken (Asm.rcc k) = false)

/-! ## Stack, ports and machine control -/

/-- PUSH of BC, DE, HL (R84, R260) and of PSW (R261): the high register at SP-1, then the low one at SP-2, SP less 2. That A is the
high byte of PSW and F the low one is general knowledge, the spec's decision D2 (log 15). -/
def Obligations.PushStoresThePair : Prop :=
  ∀ (s : State) (rp : Pair),
    encode (Asm.push rp) = [0b11#2 ++ pairIndex rp ++ 0b0101#4] ∧
    ∃ t, exec (Asm.push rp) s = .next t ∧ t.sp = s.sp - 2 ∧
      StoredBytes [(s.sp - 1, match rp with | .bc => s.b | .de => s.d | .hl => s.h | .fourth => s.a),
                   (s.sp - 2, match rp with | .bc => s.c | .de => s.e | .hl => s.l | .fourth => s.f)] s t ∧
      t = { s with sp := t.sp, mem := t.mem, outbox := t.outbox }

/-- POP of BC, DE and HL (R85, R262): the low register from SP, the high one from SP+1, SP plus 2; no flag. -/
def Obligations.PopLoadsThePair : Prop :=
  ∀ s : State,
    (encode .popB = [0b11000001#8] ∧
      exec .popB s = .next { s with b := s.memRead (s.sp + 1), c := s.memRead s.sp, sp := s.sp + 2 }) ∧
    (encode .popD = [0b11010001#8] ∧
      exec .popD s = .next { s with d := s.memRead (s.sp + 1), e := s.memRead s.sp, sp := s.sp + 2 }) ∧
    (encode .popH = [0b11100001#8] ∧
      exec .popH s = .next { s with h := s.memRead (s.sp + 1), l := s.memRead s.sp, sp := s.sp + 2 })

/-- POP PSW (R263; A as the high byte and F as the low one is the spec's D2, forcing all three reserved bits its D4): the five flags
are the popped byte's, the reserved bits are not. -/
def Obligations.PopPswForcesReservedBits : Prop :=
  encode .popPsw = [0b11110001#8] ∧
  ∀ s : State, ∃ t, exec .popPsw s = .next t ∧ t.a = s.memRead (s.sp + 1) ∧ t.sp = s.sp + 2 ∧
    SameBits [0, 2, 4, 6, 7] (s.memRead s.sp) t.f ∧
    t.f.getLsbD 5 = false ∧ t.f.getLsbD 3 = false ∧ t.f.getLsbD 1 = true ∧
    t = { s with a := t.a, f := t.f, sp := t.sp } ∧ SameBytes s t

/-- XTHL and SPHL (R264, R265; the spec's decisions D1 and D12): HL with the word at SP, each byte stored judged on its own, while HL
takes the old word; and SP from HL. -/
def Obligations.XthlAndSphl : Prop :=
  encode .xthl = [0b11100011#8] ∧ encode .sphl = [0b11111001#8] ∧
  ∀ s : State, exec .sphl s = .next { s with sp := s.h ++ s.l } ∧
    ∃ t, exec .xthl s = .next t ∧ t.l = s.memRead s.sp ∧ t.h = s.memRead (s.sp + 1) ∧
      StoredBytes [(s.sp, s.l), (s.sp + 1, s.h)] s t ∧
      t = { s with h := t.h, l := t.l, mem := t.mem, outbox := t.outbox }

/-- IN and OUT (R266, R267; A as their register is D23): A takes the host's answer, whatever it is, and A goes to the port. The counter
of draws and the outbox are the model's own (log 2, log 3). -/
def Obligations.InAndOutUseA : Prop :=
  ∀ (s : State) (port : Byte),
    encode (.inp port) = [0b11011011#8, port] ∧ encode (.out port) = [0b11010011#8, port] ∧
    exec (.inp port) s = .next { s with a := Config.portAnswer s.portDraws port, portDraws := s.portDraws + 1,
                                        outbox := s.outbox ++ [.portRead port] } ∧
    exec (.out port) s = .next { s with outbox := s.outbox ++ [.portWrite port s.a] }

/-- EI, DI, HLT, NOP (R268 to R271; that EI and DI act within their own step is the spec's D14, what NOP does its D1). -/
def Obligations.MachineControlChangesItsBit : Prop :=
  encode .ei = [0b11111011#8] ∧ encode .di = [0b11110011#8] ∧ encode .hlt = [0b01110110#8] ∧ encode .nop = [0b00000000#8] ∧
  ∀ s : State, exec .ei s = .next { s with ie := true } ∧ exec .di s = .next { s with ie := false } ∧
    exec .hlt s = .next { s with halted := true } ∧ exec .nop s = .next s

/-- With the policy off, pushing any pair and popping into any pair gives the value back and restores SP, for every SP, the boundary
ones too (R351, C8). The pair A:F is the spec's D2, the reserved bits of F that a pop into it forces are its D4. -/
def Obligations.PushThenPopGivesTheValueBack : Prop :=
  ∀ (s : State) (rp rq : Pair), s.cfg.writeProtectEnabled = false →
    ∃ t u, exec (Asm.push rp) s = .next t ∧ exec (Asm.pop rq) t = .next u ∧ u.sp = s.sp ∧
      u.pair rq .psw = (if rq = .fourth then (s.pair rp .psw &&& 0xFFD7#16) ||| 0x0002#16 else s.pair rp .psw) ∧
      (flagsOk s.f → rp = rq → u.pair rq .psw = s.pair rp .psw)
end

