-- ==== Sys2Proof/Laws/Flags.lean ====
section
/-! SUPPORT. The laws of the flag byte: what a write of one flag, of four and of five does to each bit, and that the reserved bits keep
their constants (10_state.md R40). -/

namespace Sys2Proof.Machine

/-- A bit set reads back, and no other bit changes. -/
theorem getLsbD_setBit (f : Byte) (v : Bool) {i : Nat} (hi : i < 8) (j : Nat) :
    (setBit f i v).getLsbD j = if j = i then v else f.getLsbD j := by
  by_cases h : j = i
  · subst h
    cases v <;> simp [setBit, hi]
  · by_cases hj : j < 8
    · cases v <;> simp [setBit, h, hj] <;> omega
    · rw [BitVec.getLsbD_of_ge _ _ (by omega), BitVec.getLsbD_of_ge _ _ (by omega)]
      simp [h]

@[simp] theorem flagCY_withCY (f : Byte) (v : Bool) : flagCY (withCY f v) = v :=
  getLsbD_setBit f v (by omega) 0

/-- `withCY` keeps every bit but bit 0. -/
theorem getLsbD_withCY (f : Byte) (v : Bool) (j : Nat) :
    (withCY f v).getLsbD j = if j = 0 then v else f.getLsbD j := getLsbD_setBit f v (by omega) j

/-- What `writeFlags4` leaves in each bit. -/
theorem getLsbD_writeFlags4 (f : Byte) (r : AluOut) (j : Nat) :
    (writeFlags4 f r).getLsbD j =
      if j = 2 then r.p else if j = 7 then r.s else if j = 6 then r.z else if j = 4 then r.ac else f.getLsbD j := by
  simp [writeFlags4, getLsbD_setBit]

/-- What `writeFlags5` leaves in each bit. -/
theorem getLsbD_writeFlags5 (f : Byte) (r : AluOut) (j : Nat) :
    (writeFlags5 f r).getLsbD j =
      if j = 0 then r.cy else if j = 2 then r.p else if j = 7 then r.s else if j = 6 then r.z
      else if j = 4 then r.ac else f.getLsbD j := by
  rw [writeFlags5, getLsbD_withCY, getLsbD_writeFlags4]

/-- What `forceReserved` leaves in each bit. -/
theorem getLsbD_forceReserved (f : Byte) {j : Nat} (hj : j < 8) :
    (forceReserved f).getLsbD j = if j = 1 then true else if j = 3 ∨ j = 5 then false else f.getLsbD j := by
  have h : j = 0 ∨ j = 1 ∨ j = 2 ∨ j = 3 ∨ j = 4 ∨ j = 5 ∨ j = 6 ∨ j = 7 := by omega
  rcases h with rfl | rfl | rfl | rfl | rfl | rfl | rfl | rfl <;> simp [forceReserved]

theorem flagsOk_withCY {f : Byte} (v : Bool) (h : flagsOk f) : flagsOk (withCY f v) :=
  ⟨(getLsbD_withCY f v 5).trans h.1, (getLsbD_withCY f v 3).trans h.2.1, (getLsbD_withCY f v 1).trans h.2.2⟩

theorem flagsOk_writeFlags4 {f : Byte} (r : AluOut) (h : flagsOk f) : flagsOk (writeFlags4 f r) :=
  ⟨(getLsbD_writeFlags4 f r 5).trans h.1, (getLsbD_writeFlags4 f r 3).trans h.2.1, (getLsbD_writeFlags4 f r 1).trans h.2.2⟩

theorem flagsOk_writeFlags5 {f : Byte} (r : AluOut) (h : flagsOk f) : flagsOk (writeFlags5 f r) :=
  ⟨(getLsbD_writeFlags5 f r 5).trans h.1, (getLsbD_writeFlags5 f r 3).trans h.2.1, (getLsbD_writeFlags5 f r 1).trans h.2.2⟩

theorem flagsOk_forceReserved (f : Byte) : flagsOk (forceReserved f) :=
  ⟨getLsbD_forceReserved f (j := 5) (by omega), getLsbD_forceReserved f (j := 3) (by omega),
    getLsbD_forceReserved f (j := 1) (by omega)⟩

/-- Forcing changes nothing where the reserved bits are right. -/
theorem forceReserved_of_flagsOk {f : Byte} (h : flagsOk f) : forceReserved f = f := by
  apply BitVec.eq_of_getLsbD_eq
  intro j hj
  rw [getLsbD_forceReserved f hj]
  obtain ⟨h5, h3, h1⟩ := h
  split
  · next h => subst h; exact h1.symm
  · split
    · next h => rcases h with rfl | rfl
                · exact h3.symm
                · exact h5.symm
    · rfl

theorem flagsOk_daaAdd {af : Byte × Byte} (x : Byte) (h : flagsOk af.2) : flagsOk (daaAdd x af).2 :=
  flagsOk_writeFlags5 _ h

/-- DAA keeps the reserved bits (R166). -/
theorem flagsOk_daa {a f : Byte} (h : flagsOk f) : flagsOk (daa a f).2 := by
  unfold daa
  have hlow : flagsOk (if lowNibble a > 9 ∨ flagAC f = true then daaAdd 0x06#8 (a, f) else (a, f)).2 := by
    split
    · exact flagsOk_daaAdd _ h
    · exact h
  simp only
  generalize (if lowNibble a > 9 ∨ flagAC f = true then daaAdd 0x06#8 (a, f) else (a, f)) = low at hlow ⊢
  split
  · exact flagsOk_daaAdd _ hlow
  · exact hlow

/-- The condition table holds exactly when the flags are as it asks (R42). -/
theorem condHolds_iff (k : Cond) (f : Byte) : condHolds k f = true ↔ condMeans k f := by
  cases k <;> simp [condHolds, condMeans]

/-- The bits of F the flags stand in (R39). -/
theorem flagCY_eq (f : Byte) : flagCY f = f.getLsbD 0 := rfl
theorem flagP_eq (f : Byte) : flagP f = f.getLsbD 2 := rfl
theorem flagAC_eq (f : Byte) : flagAC f = f.getLsbD 4 := rfl
theorem flagZ_eq (f : Byte) : flagZ f = f.getLsbD 6 := rfl
theorem flagS_eq (f : Byte) : flagS f = f.getLsbD 7 := rfl

end Sys2Proof.Machine
end

