-- ==== Sys2Proof/Laws/Memory.lean ====
section
/-! SUPPORT. The laws of memory as a list of cells: read after write, and the canonical form kept by every operation. -/

namespace Sys2Proof.Machine

@[simp] theorem Memory.read_nil (x : Nat) : Memory.read [] x = 0x00#8 := rfl

theorem Memory.read_cons (k : Nat) (v : Byte) (m : Memory) (x : Nat) :
    Memory.read ((k, v) :: m) x = if k = x then v else Memory.read m x := rfl

theorem Memory.read_erase_same (m : Memory) (x : Nat) : (Memory.erase m x).read x = 0x00#8 := by
  induction m with
  | nil => rfl
  | cons cell m ih =>
    obtain ⟨k, v⟩ := cell
    by_cases h : k = x <;> simp [Memory.erase, Memory.read_cons, h, ih]

theorem Memory.read_erase_other (m : Memory) {x y : Nat} (h : y ≠ x) : (Memory.erase m x).read y = m.read y := by
  induction m with
  | nil => rfl
  | cons cell m ih =>
    obtain ⟨k, v⟩ := cell
    by_cases hk : k = x
    · simp [Memory.erase, Memory.read_cons, hk, ih, Ne.symm h]
    · simp [Memory.erase, Memory.read_cons, hk, ih]

theorem Memory.erase_mem {m : Memory} {x : Nat} {cell : Host.Cell} (h : cell ∈ Memory.erase m x) :
    cell ∈ m ∧ cell.1 ≠ x := by
  induction m with
  | nil => cases h
  | cons c m ih =>
    obtain ⟨k, v⟩ := c
    by_cases hk : k = x
    · simp only [Memory.erase, hk, if_true] at h
      exact ⟨List.mem_cons_of_mem _ (ih h).1, (ih h).2⟩
    · simp only [Memory.erase, hk, if_false, List.mem_cons] at h
      rcases h with rfl | h
      · exact ⟨List.mem_cons_self, hk⟩
      · exact ⟨List.mem_cons_of_mem _ (ih h).1, (ih h).2⟩

/-- Where no cell is at `x`, the inserted cell is the one read there. -/
theorem Memory.read_insert_same (m : Memory) (x : Nat) (v : Byte) (h : ∀ cell ∈ m, cell.1 ≠ x) :
    (Memory.insert m x v).read x = v := by
  induction m with
  | nil => simp [Memory.insert, Memory.read_cons]
  | cons c m ih =>
    obtain ⟨k, u⟩ := c
    have hk : k ≠ x := h (k, u) List.mem_cons_self
    have hm : ∀ cell ∈ m, cell.1 ≠ x := fun cell hc => h cell (List.mem_cons_of_mem _ hc)
    by_cases hx : x < k
    · simp [Memory.insert, Memory.read_cons, hx]
    · simp [Memory.insert, Memory.read_cons, hx, hk, ih hm]

theorem Memory.read_insert_other (m : Memory) {x y : Nat} (v : Byte) (h : y ≠ x) :
    (Memory.insert m x v).read y = m.read y := by
  induction m with
  | nil => simp [Memory.insert, Memory.read_cons, Ne.symm h]
  | cons c m ih =>
    obtain ⟨k, u⟩ := c
    by_cases hx : x < k
    · simp [Memory.insert, Memory.read_cons, hx, Ne.symm h]
    · simp [Memory.insert, Memory.read_cons, hx, ih]

/-- A byte reads as what was last written to it. -/
@[simp] theorem Memory.read_write_same (m : Memory) (x : Nat) (v : Byte) : (m.write x v).read x = v := by
  unfold Memory.write
  split
  · rename_i h; rw [Memory.read_erase_same, h]
  · exact Memory.read_insert_same _ _ _ fun cell hc => (Memory.erase_mem hc).2

/-- A write leaves every other byte as it was. -/
theorem Memory.read_write_other (m : Memory) {x y : Nat} (v : Byte) (h : y ≠ x) : (m.write x v).read y = m.read y := by
  unfold Memory.write
  split
  · exact Memory.read_erase_other m h
  · rw [Memory.read_insert_other _ _ h, Memory.read_erase_other m h]

theorem Memory.read_write (m : Memory) (x y : Nat) (v : Byte) :
    (m.write x v).read y = if y = x then v else m.read y := by
  by_cases h : y = x
  · subst h; simp
  · simp [h, Memory.read_write_other m v h]

theorem Memory.wf_nil : Memory.wf [] := ⟨List.Pairwise.nil, fun _ h => absurd h List.not_mem_nil⟩

theorem Memory.wf_tail {cell : Host.Cell} {m : Memory} (h : Memory.wf (cell :: m)) : Memory.wf m :=
  ⟨(List.pairwise_cons.mp h.1).2, fun c hc => h.2 c (List.mem_cons_of_mem _ hc)⟩

theorem Memory.wf_erase {m : Memory} (x : Nat) (h : m.wf) : (Memory.erase m x).wf := by
  induction m with
  | nil => exact h
  | cons c m ih =>
    obtain ⟨k, v⟩ := c
    have hm := ih (Memory.wf_tail h)
    by_cases hk : k = x
    · simpa [Memory.erase, hk] using hm
    · simp only [Memory.erase, hk, if_false]
      refine ⟨List.pairwise_cons.mpr ⟨fun c hc => (List.pairwise_cons.mp h.1).1 c (Memory.erase_mem hc).1, hm.1⟩, ?_⟩
      intro c hc
      rcases List.mem_cons.mp hc with rfl | hc
      · exact h.2 _ List.mem_cons_self
      · exact hm.2 c hc

theorem Memory.mem_insert {m : Memory} {x : Nat} {v : Byte} {cell : Host.Cell} (h : cell ∈ Memory.insert m x v) :
    cell = (x, v) ∨ cell ∈ m := by
  induction m with
  | nil => simpa [Memory.insert] using h
  | cons c m ih =>
    obtain ⟨k, u⟩ := c
    by_cases hx : x < k
    · simpa [Memory.insert, hx] using h
    · simp only [Memory.insert, hx, if_false, List.mem_cons] at h
      rcases h with rfl | h
      · exact Or.inr List.mem_cons_self
      · exact (ih h).imp id (List.mem_cons_of_mem _)

theorem Memory.wf_insert {m : Memory} {x : Nat} {v : Byte} (h : m.wf) (hx : x < 65536) (hv : v ≠ 0x00#8)
    (hm : ∀ cell ∈ m, cell.1 ≠ x) : (Memory.insert m x v).wf := by
  refine ⟨?_, ?_⟩
  · induction m with
    | nil => simp [Memory.insert]
    | cons c m ih =>
      obtain ⟨k, u⟩ := c
      have hk : k ≠ x := hm (k, u) List.mem_cons_self
      obtain ⟨hlt, hp⟩ := List.pairwise_cons.mp h.1
      by_cases hxk : x < k
      · simp only [Memory.insert, hxk, if_true]
        refine List.pairwise_cons.mpr ⟨?_, h.1⟩
        intro c hc
        rcases List.mem_cons.mp hc with rfl | hc
        · exact hxk
        · exact Nat.lt_trans hxk (hlt c hc)
      · simp only [Memory.insert, hxk, if_false]
        refine List.pairwise_cons.mpr ⟨?_, ih (Memory.wf_tail h) fun c hc => hm c (List.mem_cons_of_mem _ hc)⟩
        intro c hc
        rcases Memory.mem_insert hc with rfl | hc
        · exact Nat.lt_of_le_of_ne (Nat.le_of_not_lt hxk) hk
        · exact hlt c hc
  · intro c hc
    rcases Memory.mem_insert hc with rfl | hc
    · exact ⟨hx, hv⟩
    · exact h.2 c hc

/-- A write keeps the canonical form. -/
theorem Memory.wf_write {m : Memory} {x : Nat} (v : Byte) (h : m.wf) (hx : x < 65536) : (m.write x v).wf := by
  unfold Memory.write
  split
  · exact Memory.wf_erase x h
  · exact Memory.wf_insert (Memory.wf_erase x h) hx ‹_› fun cell hc => (Memory.erase_mem hc).2

/-- A bulk load keeps the canonical form (R80). -/
theorem Memory.wf_bulkWrite {m : Memory} (x : Nat) (bytes : List Byte) (h : m.wf) : (m.bulkWrite x bytes).wf := by
  induction bytes generalizing m x with
  | nil => exact h
  | cons v vs ih =>
    refine ih (x + 1) ?_
    split
    · exact Memory.wf_write v h ‹_›
    · exact h

/-- A bulk load changes no byte below its offset (R80). -/
theorem Memory.read_bulkWrite_below (m : Memory) {x y : Nat} (bytes : List Byte) (h : y < x) :
    (m.bulkWrite x bytes).read y = m.read y := by
  induction bytes generalizing m x with
  | nil => rfl
  | cons v vs ih =>
    rw [Memory.bulkWrite, ih _ (by omega)]
    split
    · exact Memory.read_write_other m v (by omega)
    · rfl

/-- In canonical form an address below every cell reads as an unlisted one. -/
theorem Memory.read_of_lt {m : Memory} {x : Nat} (h : ∀ cell ∈ m, x < cell.1) : m.read x = 0x00#8 := by
  induction m with
  | nil => rfl
  | cons c m ih =>
    obtain ⟨k, v⟩ := c
    have hk : k ≠ x := Nat.ne_of_gt (h (k, v) List.mem_cons_self)
    simpa [Memory.read_cons, hk] using ih fun cell hc => h cell (List.mem_cons_of_mem _ hc)

/-- Canonical memories that read alike are equal. -/
theorem Memory.eq_of_read {m n : Memory} (hm : m.wf) (hn : n.wf) (h : ∀ x, m.read x = n.read x) : m = n := by
  induction m generalizing n with
  | nil =>
    cases n with
    | nil => rfl
    | cons c n =>
      have := h c.1
      simp only [Memory.read, if_true] at this
      exact absurd this.symm (hn.2 c List.mem_cons_self).2
  | cons c m ih =>
    obtain ⟨k, v⟩ := c
    obtain ⟨hlm, _⟩ := List.pairwise_cons.mp hm.1
    cases n with
    | nil =>
      have := h k
      simp only [Memory.read, if_true] at this
      exact absurd this (hm.2 (k, v) List.mem_cons_self).2
    | cons c' n =>
      obtain ⟨k', v'⟩ := c'
      obtain ⟨hln, _⟩ := List.pairwise_cons.mp hn.1
      have hkk : k = k' := by
        rcases Nat.lt_trichotomy k k' with hlt | heq | hgt
        · have hr : Memory.read ((k', v') :: n) k = 0x00#8 := Memory.read_of_lt fun cell hc => by
            rcases List.mem_cons.mp hc with rfl | hc
            · exact hlt
            · exact Nat.lt_trans hlt (hln cell hc)
          have := h k
          rw [hr] at this
          simp only [Memory.read, if_true] at this
          exact absurd this (hm.2 (k, v) List.mem_cons_self).2
        · exact heq
        · have hr : Memory.read ((k, v) :: m) k' = 0x00#8 := Memory.read_of_lt fun cell hc => by
            rcases List.mem_cons.mp hc with rfl | hc
            · exact hgt
            · exact Nat.lt_trans hgt (hlm cell hc)
          have := h k'
          rw [hr] at this
          simp only [Memory.read, if_true] at this
          exact absurd this.symm (hn.2 (k', v') List.mem_cons_self).2
      subst hkk
      have hvv : v = v' := by simpa [Memory.read] using h k
      subst hvv
      congr 1
      refine ih (Memory.wf_tail hm) (Memory.wf_tail hn) fun x => ?_
      by_cases hx : x = k
      · subst hx
        rw [Memory.read_of_lt hlm, Memory.read_of_lt hln]
      · simpa [Memory.read, Ne.symm hx] using h x

end Sys2Proof.Machine
end

