-- ==== Sys2Proof/Laws/State.lean ====
section
/-! SUPPORT. What each update of State leaves in each field. -/

namespace Sys2Proof.Machine

@[simp] theorem State.setA_b (s : State) (v : Byte) : (s.setA v).b = s.b := rfl
@[simp] theorem State.setA_c (s : State) (v : Byte) : (s.setA v).c = s.c := rfl
@[simp] theorem State.setA_d (s : State) (v : Byte) : (s.setA v).d = s.d := rfl
@[simp] theorem State.setA_e (s : State) (v : Byte) : (s.setA v).e = s.e := rfl
@[simp] theorem State.setA_h (s : State) (v : Byte) : (s.setA v).h = s.h := rfl
@[simp] theorem State.setA_l (s : State) (v : Byte) : (s.setA v).l = s.l := rfl
@[simp] theorem State.setA_a (s : State) (v : Byte) : (s.setA v).a = v := rfl
@[simp] theorem State.setA_f (s : State) (v : Byte) : (s.setA v).f = s.f := rfl
@[simp] theorem State.setA_sp (s : State) (v : Byte) : (s.setA v).sp = s.sp := rfl
@[simp] theorem State.setA_pc (s : State) (v : Byte) : (s.setA v).pc = s.pc := rfl
@[simp] theorem State.setA_latch (s : State) (v : Byte) : (s.setA v).latch = s.latch := rfl
@[simp] theorem State.setA_halted (s : State) (v : Byte) : (s.setA v).halted = s.halted := rfl
@[simp] theorem State.setA_ie (s : State) (v : Byte) : (s.setA v).ie = s.ie := rfl
@[simp] theorem State.setA_running (s : State) (v : Byte) : (s.setA v).running = s.running := rfl
@[simp] theorem State.setA_stopInfo (s : State) (v : Byte) : (s.setA v).stopInfo = s.stopInfo := rfl
@[simp] theorem State.setA_mem (s : State) (v : Byte) : (s.setA v).mem = s.mem := rfl
@[simp] theorem State.setA_cfg (s : State) (v : Byte) : (s.setA v).cfg = s.cfg := rfl
@[simp] theorem State.setA_portDraws (s : State) (v : Byte) : (s.setA v).portDraws = s.portDraws := rfl
@[simp] theorem State.setA_outbox (s : State) (v : Byte) : (s.setA v).outbox = s.outbox := rfl

@[simp] theorem State.setF_b (s : State) (v : Byte) : (s.setF v).b = s.b := rfl
@[simp] theorem State.setF_c (s : State) (v : Byte) : (s.setF v).c = s.c := rfl
@[simp] theorem State.setF_d (s : State) (v : Byte) : (s.setF v).d = s.d := rfl
@[simp] theorem State.setF_e (s : State) (v : Byte) : (s.setF v).e = s.e := rfl
@[simp] theorem State.setF_h (s : State) (v : Byte) : (s.setF v).h = s.h := rfl
@[simp] theorem State.setF_l (s : State) (v : Byte) : (s.setF v).l = s.l := rfl
@[simp] theorem State.setF_a (s : State) (v : Byte) : (s.setF v).a = s.a := rfl
@[simp] theorem State.setF_f (s : State) (v : Byte) : (s.setF v).f = v := rfl
@[simp] theorem State.setF_sp (s : State) (v : Byte) : (s.setF v).sp = s.sp := rfl
@[simp] theorem State.setF_pc (s : State) (v : Byte) : (s.setF v).pc = s.pc := rfl
@[simp] theorem State.setF_latch (s : State) (v : Byte) : (s.setF v).latch = s.latch := rfl
@[simp] theorem State.setF_halted (s : State) (v : Byte) : (s.setF v).halted = s.halted := rfl
@[simp] theorem State.setF_ie (s : State) (v : Byte) : (s.setF v).ie = s.ie := rfl
@[simp] theorem State.setF_running (s : State) (v : Byte) : (s.setF v).running = s.running := rfl
@[simp] theorem State.setF_stopInfo (s : State) (v : Byte) : (s.setF v).stopInfo = s.stopInfo := rfl
@[simp] theorem State.setF_mem (s : State) (v : Byte) : (s.setF v).mem = s.mem := rfl
@[simp] theorem State.setF_cfg (s : State) (v : Byte) : (s.setF v).cfg = s.cfg := rfl
@[simp] theorem State.setF_portDraws (s : State) (v : Byte) : (s.setF v).portDraws = s.portDraws := rfl
@[simp] theorem State.setF_outbox (s : State) (v : Byte) : (s.setF v).outbox = s.outbox := rfl

@[simp] theorem State.setSp_b (s : State) (v : Word) : (s.setSp v).b = s.b := rfl
@[simp] theorem State.setSp_c (s : State) (v : Word) : (s.setSp v).c = s.c := rfl
@[simp] theorem State.setSp_d (s : State) (v : Word) : (s.setSp v).d = s.d := rfl
@[simp] theorem State.setSp_e (s : State) (v : Word) : (s.setSp v).e = s.e := rfl
@[simp] theorem State.setSp_h (s : State) (v : Word) : (s.setSp v).h = s.h := rfl
@[simp] theorem State.setSp_l (s : State) (v : Word) : (s.setSp v).l = s.l := rfl
@[simp] theorem State.setSp_a (s : State) (v : Word) : (s.setSp v).a = s.a := rfl
@[simp] theorem State.setSp_f (s : State) (v : Word) : (s.setSp v).f = s.f := rfl
@[simp] theorem State.setSp_sp (s : State) (v : Word) : (s.setSp v).sp = v := rfl
@[simp] theorem State.setSp_pc (s : State) (v : Word) : (s.setSp v).pc = s.pc := rfl
@[simp] theorem State.setSp_latch (s : State) (v : Word) : (s.setSp v).latch = s.latch := rfl
@[simp] theorem State.setSp_halted (s : State) (v : Word) : (s.setSp v).halted = s.halted := rfl
@[simp] theorem State.setSp_ie (s : State) (v : Word) : (s.setSp v).ie = s.ie := rfl
@[simp] theorem State.setSp_running (s : State) (v : Word) : (s.setSp v).running = s.running := rfl
@[simp] theorem State.setSp_stopInfo (s : State) (v : Word) : (s.setSp v).stopInfo = s.stopInfo := rfl
@[simp] theorem State.setSp_mem (s : State) (v : Word) : (s.setSp v).mem = s.mem := rfl
@[simp] theorem State.setSp_cfg (s : State) (v : Word) : (s.setSp v).cfg = s.cfg := rfl
@[simp] theorem State.setSp_portDraws (s : State) (v : Word) : (s.setSp v).portDraws = s.portDraws := rfl
@[simp] theorem State.setSp_outbox (s : State) (v : Word) : (s.setSp v).outbox = s.outbox := rfl

@[simp] theorem State.setPc_b (s : State) (v : Word) : (s.setPc v).b = s.b := rfl
@[simp] theorem State.setPc_c (s : State) (v : Word) : (s.setPc v).c = s.c := rfl
@[simp] theorem State.setPc_d (s : State) (v : Word) : (s.setPc v).d = s.d := rfl
@[simp] theorem State.setPc_e (s : State) (v : Word) : (s.setPc v).e = s.e := rfl
@[simp] theorem State.setPc_h (s : State) (v : Word) : (s.setPc v).h = s.h := rfl
@[simp] theorem State.setPc_l (s : State) (v : Word) : (s.setPc v).l = s.l := rfl
@[simp] theorem State.setPc_a (s : State) (v : Word) : (s.setPc v).a = s.a := rfl
@[simp] theorem State.setPc_f (s : State) (v : Word) : (s.setPc v).f = s.f := rfl
@[simp] theorem State.setPc_sp (s : State) (v : Word) : (s.setPc v).sp = s.sp := rfl
@[simp] theorem State.setPc_pc (s : State) (v : Word) : (s.setPc v).pc = v := rfl
@[simp] theorem State.setPc_latch (s : State) (v : Word) : (s.setPc v).latch = s.latch := rfl
@[simp] theorem State.setPc_halted (s : State) (v : Word) : (s.setPc v).halted = s.halted := rfl
@[simp] theorem State.setPc_ie (s : State) (v : Word) : (s.setPc v).ie = s.ie := rfl
@[simp] theorem State.setPc_running (s : State) (v : Word) : (s.setPc v).running = s.running := rfl
@[simp] theorem State.setPc_stopInfo (s : State) (v : Word) : (s.setPc v).stopInfo = s.stopInfo := rfl
@[simp] theorem State.setPc_mem (s : State) (v : Word) : (s.setPc v).mem = s.mem := rfl
@[simp] theorem State.setPc_cfg (s : State) (v : Word) : (s.setPc v).cfg = s.cfg := rfl
@[simp] theorem State.setPc_portDraws (s : State) (v : Word) : (s.setPc v).portDraws = s.portDraws := rfl
@[simp] theorem State.setPc_outbox (s : State) (v : Word) : (s.setPc v).outbox = s.outbox := rfl

@[simp] theorem State.setIe_b (s : State) (v : Bool) : (s.setIe v).b = s.b := rfl
@[simp] theorem State.setIe_c (s : State) (v : Bool) : (s.setIe v).c = s.c := rfl
@[simp] theorem State.setIe_d (s : State) (v : Bool) : (s.setIe v).d = s.d := rfl
@[simp] theorem State.setIe_e (s : State) (v : Bool) : (s.setIe v).e = s.e := rfl
@[simp] theorem State.setIe_h (s : State) (v : Bool) : (s.setIe v).h = s.h := rfl
@[simp] theorem State.setIe_l (s : State) (v : Bool) : (s.setIe v).l = s.l := rfl
@[simp] theorem State.setIe_a (s : State) (v : Bool) : (s.setIe v).a = s.a := rfl
@[simp] theorem State.setIe_f (s : State) (v : Bool) : (s.setIe v).f = s.f := rfl
@[simp] theorem State.setIe_sp (s : State) (v : Bool) : (s.setIe v).sp = s.sp := rfl
@[simp] theorem State.setIe_pc (s : State) (v : Bool) : (s.setIe v).pc = s.pc := rfl
@[simp] theorem State.setIe_latch (s : State) (v : Bool) : (s.setIe v).latch = s.latch := rfl
@[simp] theorem State.setIe_halted (s : State) (v : Bool) : (s.setIe v).halted = s.halted := rfl
@[simp] theorem State.setIe_ie (s : State) (v : Bool) : (s.setIe v).ie = v := rfl
@[simp] theorem State.setIe_running (s : State) (v : Bool) : (s.setIe v).running = s.running := rfl
@[simp] theorem State.setIe_stopInfo (s : State) (v : Bool) : (s.setIe v).stopInfo = s.stopInfo := rfl
@[simp] theorem State.setIe_mem (s : State) (v : Bool) : (s.setIe v).mem = s.mem := rfl
@[simp] theorem State.setIe_cfg (s : State) (v : Bool) : (s.setIe v).cfg = s.cfg := rfl
@[simp] theorem State.setIe_portDraws (s : State) (v : Bool) : (s.setIe v).portDraws = s.portDraws := rfl
@[simp] theorem State.setIe_outbox (s : State) (v : Bool) : (s.setIe v).outbox = s.outbox := rfl

@[simp] theorem State.setHalted_b (s : State) (v : Bool) : (s.setHalted v).b = s.b := rfl
@[simp] theorem State.setHalted_c (s : State) (v : Bool) : (s.setHalted v).c = s.c := rfl
@[simp] theorem State.setHalted_d (s : State) (v : Bool) : (s.setHalted v).d = s.d := rfl
@[simp] theorem State.setHalted_e (s : State) (v : Bool) : (s.setHalted v).e = s.e := rfl
@[simp] theorem State.setHalted_h (s : State) (v : Bool) : (s.setHalted v).h = s.h := rfl
@[simp] theorem State.setHalted_l (s : State) (v : Bool) : (s.setHalted v).l = s.l := rfl
@[simp] theorem State.setHalted_a (s : State) (v : Bool) : (s.setHalted v).a = s.a := rfl
@[simp] theorem State.setHalted_f (s : State) (v : Bool) : (s.setHalted v).f = s.f := rfl
@[simp] theorem State.setHalted_sp (s : State) (v : Bool) : (s.setHalted v).sp = s.sp := rfl
@[simp] theorem State.setHalted_pc (s : State) (v : Bool) : (s.setHalted v).pc = s.pc := rfl
@[simp] theorem State.setHalted_latch (s : State) (v : Bool) : (s.setHalted v).latch = s.latch := rfl
@[simp] theorem State.setHalted_halted (s : State) (v : Bool) : (s.setHalted v).halted = v := rfl
@[simp] theorem State.setHalted_ie (s : State) (v : Bool) : (s.setHalted v).ie = s.ie := rfl
@[simp] theorem State.setHalted_running (s : State) (v : Bool) : (s.setHalted v).running = s.running := rfl
@[simp] theorem State.setHalted_stopInfo (s : State) (v : Bool) : (s.setHalted v).stopInfo = s.stopInfo := rfl
@[simp] theorem State.setHalted_mem (s : State) (v : Bool) : (s.setHalted v).mem = s.mem := rfl
@[simp] theorem State.setHalted_cfg (s : State) (v : Bool) : (s.setHalted v).cfg = s.cfg := rfl
@[simp] theorem State.setHalted_portDraws (s : State) (v : Bool) : (s.setHalted v).portDraws = s.portDraws := rfl
@[simp] theorem State.setHalted_outbox (s : State) (v : Bool) : (s.setHalted v).outbox = s.outbox := rfl

@[simp] theorem State.setMem_b (s : State) (m : Memory) : (s.setMem m).b = s.b := rfl
@[simp] theorem State.setMem_c (s : State) (m : Memory) : (s.setMem m).c = s.c := rfl
@[simp] theorem State.setMem_d (s : State) (m : Memory) : (s.setMem m).d = s.d := rfl
@[simp] theorem State.setMem_e (s : State) (m : Memory) : (s.setMem m).e = s.e := rfl
@[simp] theorem State.setMem_h (s : State) (m : Memory) : (s.setMem m).h = s.h := rfl
@[simp] theorem State.setMem_l (s : State) (m : Memory) : (s.setMem m).l = s.l := rfl
@[simp] theorem State.setMem_a (s : State) (m : Memory) : (s.setMem m).a = s.a := rfl
@[simp] theorem State.setMem_f (s : State) (m : Memory) : (s.setMem m).f = s.f := rfl
@[simp] theorem State.setMem_sp (s : State) (m : Memory) : (s.setMem m).sp = s.sp := rfl
@[simp] theorem State.setMem_pc (s : State) (m : Memory) : (s.setMem m).pc = s.pc := rfl
@[simp] theorem State.setMem_latch (s : State) (m : Memory) : (s.setMem m).latch = s.latch := rfl
@[simp] theorem State.setMem_halted (s : State) (m : Memory) : (s.setMem m).halted = s.halted := rfl
@[simp] theorem State.setMem_ie (s : State) (m : Memory) : (s.setMem m).ie = s.ie := rfl
@[simp] theorem State.setMem_running (s : State) (m : Memory) : (s.setMem m).running = s.running := rfl
@[simp] theorem State.setMem_stopInfo (s : State) (m : Memory) : (s.setMem m).stopInfo = s.stopInfo := rfl
@[simp] theorem State.setMem_mem (s : State) (m : Memory) : (s.setMem m).mem = m := rfl
@[simp] theorem State.setMem_cfg (s : State) (m : Memory) : (s.setMem m).cfg = s.cfg := rfl
@[simp] theorem State.setMem_portDraws (s : State) (m : Memory) : (s.setMem m).portDraws = s.portDraws := rfl
@[simp] theorem State.setMem_outbox (s : State) (m : Memory) : (s.setMem m).outbox = s.outbox := rfl

@[simp] theorem State.emit_b (s : State) (ev : HostEvent) : (s.emit ev).b = s.b := rfl
@[simp] theorem State.emit_c (s : State) (ev : HostEvent) : (s.emit ev).c = s.c := rfl
@[simp] theorem State.emit_d (s : State) (ev : HostEvent) : (s.emit ev).d = s.d := rfl
@[simp] theorem State.emit_e (s : State) (ev : HostEvent) : (s.emit ev).e = s.e := rfl
@[simp] theorem State.emit_h (s : State) (ev : HostEvent) : (s.emit ev).h = s.h := rfl
@[simp] theorem State.emit_l (s : State) (ev : HostEvent) : (s.emit ev).l = s.l := rfl
@[simp] theorem State.emit_a (s : State) (ev : HostEvent) : (s.emit ev).a = s.a := rfl
@[simp] theorem State.emit_f (s : State) (ev : HostEvent) : (s.emit ev).f = s.f := rfl
@[simp] theorem State.emit_sp (s : State) (ev : HostEvent) : (s.emit ev).sp = s.sp := rfl
@[simp] theorem State.emit_pc (s : State) (ev : HostEvent) : (s.emit ev).pc = s.pc := rfl
@[simp] theorem State.emit_latch (s : State) (ev : HostEvent) : (s.emit ev).latch = s.latch := rfl
@[simp] theorem State.emit_halted (s : State) (ev : HostEvent) : (s.emit ev).halted = s.halted := rfl
@[simp] theorem State.emit_ie (s : State) (ev : HostEvent) : (s.emit ev).ie = s.ie := rfl
@[simp] theorem State.emit_running (s : State) (ev : HostEvent) : (s.emit ev).running = s.running := rfl
@[simp] theorem State.emit_stopInfo (s : State) (ev : HostEvent) : (s.emit ev).stopInfo = s.stopInfo := rfl
@[simp] theorem State.emit_mem (s : State) (ev : HostEvent) : (s.emit ev).mem = s.mem := rfl
@[simp] theorem State.emit_cfg (s : State) (ev : HostEvent) : (s.emit ev).cfg = s.cfg := rfl
@[simp] theorem State.emit_portDraws (s : State) (ev : HostEvent) : (s.emit ev).portDraws = s.portDraws := rfl
@[simp] theorem State.emit_outbox (s : State) (ev : HostEvent) : (s.emit ev).outbox = s.outbox ++ [ev] := rfl

@[simp] theorem State.drawPort_b (s : State) (p : Byte) : (s.drawPort p).b = s.b := rfl
@[simp] theorem State.drawPort_c (s : State) (p : Byte) : (s.drawPort p).c = s.c := rfl
@[simp] theorem State.drawPort_d (s : State) (p : Byte) : (s.drawPort p).d = s.d := rfl
@[simp] theorem State.drawPort_e (s : State) (p : Byte) : (s.drawPort p).e = s.e := rfl
@[simp] theorem State.drawPort_h (s : State) (p : Byte) : (s.drawPort p).h = s.h := rfl
@[simp] theorem State.drawPort_l (s : State) (p : Byte) : (s.drawPort p).l = s.l := rfl
@[simp] theorem State.drawPort_a (s : State) (p : Byte) : (s.drawPort p).a = s.a := rfl
@[simp] theorem State.drawPort_f (s : State) (p : Byte) : (s.drawPort p).f = s.f := rfl
@[simp] theorem State.drawPort_sp (s : State) (p : Byte) : (s.drawPort p).sp = s.sp := rfl
@[simp] theorem State.drawPort_pc (s : State) (p : Byte) : (s.drawPort p).pc = s.pc := rfl
@[simp] theorem State.drawPort_latch (s : State) (p : Byte) : (s.drawPort p).latch = s.latch := rfl
@[simp] theorem State.drawPort_halted (s : State) (p : Byte) : (s.drawPort p).halted = s.halted := rfl
@[simp] theorem State.drawPort_ie (s : State) (p : Byte) : (s.drawPort p).ie = s.ie := rfl
@[simp] theorem State.drawPort_running (s : State) (p : Byte) : (s.drawPort p).running = s.running := rfl
@[simp] theorem State.drawPort_stopInfo (s : State) (p : Byte) : (s.drawPort p).stopInfo = s.stopInfo := rfl
@[simp] theorem State.drawPort_mem (s : State) (p : Byte) : (s.drawPort p).mem = s.mem := rfl
@[simp] theorem State.drawPort_cfg (s : State) (p : Byte) : (s.drawPort p).cfg = s.cfg := rfl
@[simp] theorem State.drawPort_portDraws (s : State) (p : Byte) : (s.drawPort p).portDraws = s.portDraws + 1 := rfl
@[simp] theorem State.drawPort_outbox (s : State) (p : Byte) : (s.drawPort p).outbox = s.outbox ++ [.portRead p] := rfl

@[simp] theorem State.fatalStop_b (s : State) (op : Byte) : (s.fatalStop op).b = s.b := rfl
@[simp] theorem State.fatalStop_c (s : State) (op : Byte) : (s.fatalStop op).c = s.c := rfl
@[simp] theorem State.fatalStop_d (s : State) (op : Byte) : (s.fatalStop op).d = s.d := rfl
@[simp] theorem State.fatalStop_e (s : State) (op : Byte) : (s.fatalStop op).e = s.e := rfl
@[simp] theorem State.fatalStop_h (s : State) (op : Byte) : (s.fatalStop op).h = s.h := rfl
@[simp] theorem State.fatalStop_l (s : State) (op : Byte) : (s.fatalStop op).l = s.l := rfl
@[simp] theorem State.fatalStop_a (s : State) (op : Byte) : (s.fatalStop op).a = s.a := rfl
@[simp] theorem State.fatalStop_f (s : State) (op : Byte) : (s.fatalStop op).f = s.f := rfl
@[simp] theorem State.fatalStop_sp (s : State) (op : Byte) : (s.fatalStop op).sp = s.sp := rfl
@[simp] theorem State.fatalStop_pc (s : State) (op : Byte) : (s.fatalStop op).pc = s.pc := rfl
@[simp] theorem State.fatalStop_latch (s : State) (op : Byte) : (s.fatalStop op).latch = s.latch := rfl
@[simp] theorem State.fatalStop_halted (s : State) (op : Byte) : (s.fatalStop op).halted = s.halted := rfl
@[simp] theorem State.fatalStop_ie (s : State) (op : Byte) : (s.fatalStop op).ie = s.ie := rfl
@[simp] theorem State.fatalStop_running (s : State) (op : Byte) : (s.fatalStop op).running = false := rfl
@[simp] theorem State.fatalStop_stopInfo (s : State) (op : Byte) : (s.fatalStop op).stopInfo = .fatalOpcode s.pc op := rfl
@[simp] theorem State.fatalStop_mem (s : State) (op : Byte) : (s.fatalStop op).mem = s.mem := rfl
@[simp] theorem State.fatalStop_cfg (s : State) (op : Byte) : (s.fatalStop op).cfg = s.cfg := rfl
@[simp] theorem State.fatalStop_portDraws (s : State) (op : Byte) : (s.fatalStop op).portDraws = s.portDraws := rfl
@[simp] theorem State.fatalStop_outbox (s : State) (op : Byte) : (s.fatalStop op).outbox = s.outbox := rfl

@[simp] theorem State.enterInterrupt_b (s : State) : (s.enterInterrupt).b = s.b := rfl
@[simp] theorem State.enterInterrupt_c (s : State) : (s.enterInterrupt).c = s.c := rfl
@[simp] theorem State.enterInterrupt_d (s : State) : (s.enterInterrupt).d = s.d := rfl
@[simp] theorem State.enterInterrupt_e (s : State) : (s.enterInterrupt).e = s.e := rfl
@[simp] theorem State.enterInterrupt_h (s : State) : (s.enterInterrupt).h = s.h := rfl
@[simp] theorem State.enterInterrupt_l (s : State) : (s.enterInterrupt).l = s.l := rfl
@[simp] theorem State.enterInterrupt_a (s : State) : (s.enterInterrupt).a = s.a := rfl
@[simp] theorem State.enterInterrupt_f (s : State) : (s.enterInterrupt).f = s.f := rfl
@[simp] theorem State.enterInterrupt_sp (s : State) : (s.enterInterrupt).sp = s.sp := rfl
@[simp] theorem State.enterInterrupt_pc (s : State) : (s.enterInterrupt).pc = s.pc := rfl
@[simp] theorem State.enterInterrupt_latch (s : State) : (s.enterInterrupt).latch = s.latch := rfl
@[simp] theorem State.enterInterrupt_halted (s : State) : (s.enterInterrupt).halted = false := rfl
@[simp] theorem State.enterInterrupt_ie (s : State) : (s.enterInterrupt).ie = false := rfl
@[simp] theorem State.enterInterrupt_running (s : State) : (s.enterInterrupt).running = s.running := rfl
@[simp] theorem State.enterInterrupt_stopInfo (s : State) : (s.enterInterrupt).stopInfo = s.stopInfo := rfl
@[simp] theorem State.enterInterrupt_mem (s : State) : (s.enterInterrupt).mem = s.mem := rfl
@[simp] theorem State.enterInterrupt_cfg (s : State) : (s.enterInterrupt).cfg = s.cfg := rfl
@[simp] theorem State.enterInterrupt_portDraws (s : State) : (s.enterInterrupt).portDraws = s.portDraws := rfl
@[simp] theorem State.enterInterrupt_outbox (s : State) : (s.enterInterrupt).outbox = s.outbox := rfl

end Sys2Proof.Machine
end

