-- ==== Sys2Proof/Laws/Ops.lean ====
section
/-! SUPPORT. For each operation over State that the instructions share, what it can do, said once: the byte write under the policy, two
writes in a row, the stack, the register and pair accessors, and that each keeps the invariant of the state. -/

namespace Sys2Proof.Machine

/-! ## The byte write (20_memory.md R77, R79) -/

theorem State.memWrite_of_protected {s : State} {x : Word} (v : Byte) (h : s.isProtected x = true) :
    s.memWrite x v = s.emit (.rejectedWrite x v) := by simp [State.memWrite, h]

theorem State.memWrite_of_not_protected {s : State} {x : Word} (v : Byte) (h : s.isProtected x = false) :
    s.memWrite x v = s.setMem (s.mem.write x.toNat v) := by simp [State.memWrite, h]

/-- Everything a byte write can do: it answers one of two states. -/
theorem State.memWrite_cases (s : State) (x : Word) (v : Byte) :
    (s.isProtected x = true ∧ s.memWrite x v = s.emit (.rejectedWrite x v)) ∨
    (s.isProtected x = false ∧ s.memWrite x v = s.setMem (s.mem.write x.toNat v)) := by
  cases h : s.isProtected x
  · exact .inr ⟨rfl, State.memWrite_of_not_protected v h⟩
  · exact .inl ⟨rfl, State.memWrite_of_protected v h⟩

@[simp] theorem State.memWrite_b (s : State) (x : Word) (v : Byte) : (s.memWrite x v).b = s.b := by
  rcases s.memWrite_cases x v with ⟨_, h⟩ | ⟨_, h⟩ <;> rw [h] <;> rfl
@[simp] theorem State.memWrite_c (s : State) (x : Word) (v : Byte) : (s.memWrite x v).c = s.c := by
  rcases s.memWrite_cases x v with ⟨_, h⟩ | ⟨_, h⟩ <;> rw [h] <;> rfl
@[simp] theorem State.memWrite_d (s : State) (x : Word) (v : Byte) : (s.memWrite x v).d = s.d := by
  rcases s.memWrite_cases x v with ⟨_, h⟩ | ⟨_, h⟩ <;> rw [h] <;> rfl
@[simp] theorem State.memWrite_e (s : State) (x : Word) (v : Byte) : (s.memWrite x v).e = s.e := by
  rcases s.memWrite_cases x v with ⟨_, h⟩ | ⟨_, h⟩ <;> rw [h] <;> rfl
@[simp] theorem State.memWrite_h (s : State) (x : Word) (v : Byte) : (s.memWrite x v).h = s.h := by
  rcases s.memWrite_cases x v with ⟨_, h⟩ | ⟨_, h⟩ <;> rw [h] <;> rfl
@[simp] theorem State.memWrite_l (s : State) (x : Word) (v : Byte) : (s.memWrite x v).l = s.l := by
  rcases s.memWrite_cases x v with ⟨_, h⟩ | ⟨_, h⟩ <;> rw [h] <;> rfl
@[simp] theorem State.memWrite_a (s : State) (x : Word) (v : Byte) : (s.memWrite x v).a = s.a := by
  rcases s.memWrite_cases x v with ⟨_, h⟩ | ⟨_, h⟩ <;> rw [h] <;> rfl
@[simp] theorem State.memWrite_f (s : State) (x : Word) (v : Byte) : (s.memWrite x v).f = s.f := by
  rcases s.memWrite_cases x v with ⟨_, h⟩ | ⟨_, h⟩ <;> rw [h] <;> rfl
@[simp] theorem State.memWrite_sp (s : State) (x : Word) (v : Byte) : (s.memWrite x v).sp = s.sp := by
  rcases s.memWrite_cases x v with ⟨_, h⟩ | ⟨_, h⟩ <;> rw [h] <;> rfl
@[simp] theorem State.memWrite_pc (s : State) (x : Word) (v : Byte) : (s.memWrite x v).pc = s.pc := by
  rcases s.memWrite_cases x v with ⟨_, h⟩ | ⟨_, h⟩ <;> rw [h] <;> rfl
@[simp] theorem State.memWrite_latch (s : State) (x : Word) (v : Byte) : (s.memWrite x v).latch = s.latch := by
  rcases s.memWrite_cases x v with ⟨_, h⟩ | ⟨_, h⟩ <;> rw [h] <;> rfl
@[simp] theorem State.memWrite_halted (s : State) (x : Word) (v : Byte) : (s.memWrite x v).halted = s.halted := by
  rcases s.memWrite_cases x v with ⟨_, h⟩ | ⟨_, h⟩ <;> rw [h] <;> rfl
@[simp] theorem State.memWrite_ie (s : State) (x : Word) (v : Byte) : (s.memWrite x v).ie = s.ie := by
  rcases s.memWrite_cases x v with ⟨_, h⟩ | ⟨_, h⟩ <;> rw [h] <;> rfl
@[simp] theorem State.memWrite_running (s : State) (x : Word) (v : Byte) : (s.memWrite x v).running = s.running := by
  rcases s.memWrite_cases x v with ⟨_, h⟩ | ⟨_, h⟩ <;> rw [h] <;> rfl
@[simp] theorem State.memWrite_stopInfo (s : State) (x : Word) (v : Byte) : (s.memWrite x v).stopInfo = s.stopInfo := by
  rcases s.memWrite_cases x v with ⟨_, h⟩ | ⟨_, h⟩ <;> rw [h] <;> rfl
@[simp] theorem State.memWrite_cfg (s : State) (x : Word) (v : Byte) : (s.memWrite x v).cfg = s.cfg := by
  rcases s.memWrite_cases x v with ⟨_, h⟩ | ⟨_, h⟩ <;> rw [h] <;> rfl
@[simp] theorem State.memWrite_portDraws (s : State) (x : Word) (v : Byte) : (s.memWrite x v).portDraws = s.portDraws := by
  rcases s.memWrite_cases x v with ⟨_, h⟩ | ⟨_, h⟩ <;> rw [h] <;> rfl

theorem State.isProtected_congr {s t : State} (h : t.cfg = s.cfg) (x : Word) : t.isProtected x = s.isProtected x := by
  simp [State.isProtected, h]

@[simp] theorem State.isProtected_memWrite (s : State) (x y : Word) (v : Byte) :
    (s.memWrite x v).isProtected y = s.isProtected y := State.isProtected_congr (s.memWrite_cfg x v) y

/-- A byte write changes nothing but memory and the outbox. -/
theorem State.memWrite_frame (s : State) (x : Word) (v : Byte) :
    s.memWrite x v = { s with mem := (s.memWrite x v).mem, outbox := (s.memWrite x v).outbox } := by
  rcases s.memWrite_cases x v with ⟨_, h⟩ | ⟨_, h⟩ <;> rw [h] <;> rfl

/-- The byte written reads back unless the policy rejects it. -/
theorem State.memRead_memWrite_same (s : State) (x : Word) (v : Byte) :
    (s.memWrite x v).memRead x = if s.isProtected x then s.memRead x else v := by
  rcases s.memWrite_cases x v with ⟨hp, h⟩ | ⟨hp, h⟩ <;> rw [h, hp]
  · rfl
  · exact Memory.read_write_same _ _ _

/-- Every other byte reads as before. -/
theorem State.memRead_memWrite_other (s : State) {x y : Word} (v : Byte) (hy : y ≠ x) :
    (s.memWrite x v).memRead y = s.memRead y := by
  rcases s.memWrite_cases x v with ⟨_, h⟩ | ⟨_, h⟩ <;> rw [h]
  · rfl
  · exact Memory.read_write_other _ _ fun e => hy (BitVec.eq_of_toNat_eq e)

theorem State.memWrite_outbox (s : State) (x : Word) (v : Byte) :
    (s.memWrite x v).outbox = s.outbox ++ rejections s [(x, v)] := by
  rcases s.memWrite_cases x v with ⟨hp, h⟩ | ⟨hp, h⟩ <;> rw [h] <;> simp [rejections, hp]

/-- One byte write stores its byte, in the words of the statements. -/
theorem storedBytes_memWrite (s : State) (x : Word) (v : Byte) : StoredBytes [(x, v)] s (s.memWrite x v) := by
  refine ⟨?_, ?_, s.memWrite_outbox x v⟩
  · intro w hw
    rw [List.mem_singleton.mp hw]
    exact s.memRead_memWrite_same x v
  · intro y hy
    exact s.memRead_memWrite_other v (hy _ List.mem_cons_self)

/-- Two byte writes at different addresses store their bytes, in the words of the statements. -/
theorem storedBytes_memWrite_two (s : State) {x y : Word} (v u : Byte) (h : x ≠ y) :
    StoredBytes [(x, v), (y, u)] s ((s.memWrite x v).memWrite y u) := by
  refine ⟨?_, ?_, ?_⟩
  · intro w hw
    rcases List.mem_cons.mp hw with rfl | hw
    · rw [State.memRead_memWrite_other _ _ h, State.memRead_memWrite_same]
    · rw [List.mem_singleton.mp hw, State.memRead_memWrite_same, State.isProtected_memWrite,
        State.memRead_memWrite_other _ _ (Ne.symm h)]
  · intro z hz
    rw [State.memRead_memWrite_other _ _ (hz (y, u) (by simp)), State.memRead_memWrite_other _ _ (hz (x, v) (by simp))]
  · rw [State.memWrite_outbox, State.memWrite_outbox, List.append_assoc]
    congr 1
    simp only [rejections, State.isProtected_memWrite]
    rw [← List.map_append, ← List.filter_append]
    rfl

/-- What StoredBytes says depends on the memory and the outbox of the new state alone. -/
theorem StoredBytes.congr {ws : List (Word × Byte)} {s t u : State} (h : StoredBytes ws s t) (hm : u.mem = t.mem)
    (ho : u.outbox = t.outbox) : StoredBytes ws s u := by
  have hr : ∀ x, u.memRead x = t.memRead x := fun x => by simp [State.memRead, hm]
  exact ⟨fun w hw => (hr _).trans (h.1 w hw), fun x hx => (hr _).trans (h.2.1 x hx), ho.trans h.2.2⟩

/-- The write policy off: nothing is rejected. -/
theorem State.not_protected_of_off {s : State} (h : s.cfg.writeProtectEnabled = false) (x : Word) :
    s.isProtected x = false := by simp [State.isProtected, h]

/-! ## The stack (R84, R85) -/

/-- The two bytes of a push are at different addresses. -/
theorem sub_one_ne_sub_two (x : Word) : x - 1 ≠ x - 2 := by
  intro h; bv_omega

theorem add_one_ne (x : Word) : x ≠ x + 1 := by
  intro h; bv_omega

/-- What a push does: the two bytes, SP, and nothing else. -/
theorem State.push16_spec (s : State) (v : Word) :
    (s.push16 v).sp = s.sp - 2 ∧ StoredBytes [(s.sp - 1, hiByte v), (s.sp - 2, loByte v)] s (s.push16 v) ∧
    s.push16 v = { s with sp := (s.push16 v).sp, mem := (s.push16 v).mem, outbox := (s.push16 v).outbox } := by
  refine ⟨rfl, (storedBytes_memWrite_two s (hiByte v) (loByte v) (sub_one_ne_sub_two s.sp)).congr rfl rfl, ?_⟩
  unfold State.push16 State.setSp
  rw [State.memWrite_frame (s.memWrite (s.sp - 1) (hiByte v)), State.memWrite_frame s (s.sp - 1)]

/-! ## Byte order -/

@[simp] theorem hiByte_wordOf (h l : Byte) : hiByte (wordOf h l) = h := by
  simp only [hiByte, wordOf]; exact BitVec.extractLsb'_append_eq_left

@[simp] theorem loByte_wordOf (h l : Byte) : loByte (wordOf h l) = l := by
  simp only [loByte, wordOf]; exact BitVec.extractLsb'_append_eq_right

@[simp] theorem wordOf_hiByte_loByte (v : Word) : wordOf (hiByte v) (loByte v) = v := by
  apply BitVec.eq_of_getLsbD_eq
  intro i hi
  simp only [wordOf, hiByte, loByte, BitVec.getLsbD_append, BitVec.getLsbD_extractLsb']
  by_cases h : i < 8
  · simp [h]
  · have h8 : i - 8 < 8 := by omega
    have hs : 8 + (i - 8) = i := by omega
    simp [h, h8, hs]

/-! ## The word write (R78, R79) -/

/-- A word write changes nothing but memory and the outbox. -/
theorem State.memWrite16_frame (s : State) (x v : Word) :
    s.memWrite16 x v = { s with mem := (s.memWrite16 x v).mem, outbox := (s.memWrite16 x v).outbox } := by
  unfold State.memWrite16
  rw [State.memWrite_frame (s.memWrite x _), State.memWrite_frame s]

/-- A word write stores its two bytes, in the words of the statements. -/
theorem storedBytes_memWrite16 (s : State) (x : Word) (h l : Byte) :
    StoredBytes [(x, l), (x + 1, h)] s (s.memWrite16 x (wordOf h l)) := by
  have := storedBytes_memWrite_two s (loByte (wordOf h l)) (hiByte (wordOf h l)) (add_one_ne x)
  rw [hiByte_wordOf, loByte_wordOf] at this
  unfold State.memWrite16
  rw [hiByte_wordOf, loByte_wordOf]
  exact this

/-! ## Registers and pairs (10_state.md R32, R35) -/

/-- A register written reads back, and no other register changes. -/
theorem State.reg8_setReg8 {r q : Reg8} (hr : r ≠ .m) (hq : q ≠ .m) (v : Byte) (s : State) :
    (s.setReg8 r v).reg8 q = if q = r then v else s.reg8 q := by
  cases r <;> cases q <;> first | rfl | contradiction

/-- A register write is a write of that register alone, in the words of the statements. -/
theorem onlyRegister_setReg8 {r : Reg8} (hr : r ≠ .m) (v : Byte) (s : State) : OnlyRegister r v s (s.setReg8 r v) := by
  refine ⟨?_, ?_, ?_, ?_⟩
  · rw [State.reg8_setReg8 hr hr, if_pos rfl]
  · intro q hq hqr; rw [State.reg8_setReg8 hr hq, if_neg hqr]
  · cases r <;> first | rfl | contradiction
  · intro x; cases r <;> first | rfl | contradiction

/-- A pair write is a write of that pair alone, in the words of the statements. -/
theorem onlyPair_setPair (rp : Pair) (v : Word) (s : State) : OnlyPair rp v s (s.setPair rp .sp v) := by
  refine ⟨?_, ?_, ?_, ?_⟩
  · cases rp <;> simp [State.setPair, State.pair]
  · intro q hq; cases rp <;> cases q <;> first | rfl | contradiction
  · cases rp <;> rfl
  · intro x; cases rp <;> rfl

/-! ## The invariant -/

theorem State.Inv.memWrite {s : State} (h : s.Inv) (x : Word) (v : Byte) : (s.memWrite x v).Inv := by
  rcases s.memWrite_cases x v with ⟨_, e⟩ | ⟨_, e⟩ <;> rw [e]
  · exact ⟨h.flags, h.memory, h.stop⟩
  · exact ⟨h.flags, Memory.wf_write v h.memory x.isLt, h.stop⟩

theorem State.Inv.setF {s : State} (h : s.Inv) {f : Byte} (hf : flagsOk f) : (s.setF f).Inv := ⟨hf, h.memory, h.stop⟩

theorem State.Inv.push16 {s : State} (h : s.Inv) (v : Word) : (s.push16 v).Inv := by
  have := (h.memWrite (s.sp - 1) (hiByte v)).memWrite (s.sp - 2) (loByte v)
  exact ⟨this.flags, this.memory, this.stop⟩

theorem State.Inv.setReg8 {s : State} (h : s.Inv) (r : Reg8) (v : Byte) : (s.setReg8 r v).Inv := by
  cases r
  case m => exact h.memWrite _ _
  all_goals exact ⟨h.flags, h.memory, h.stop⟩

theorem State.Inv.setPair {s : State} (h : s.Inv) (rp : Pair) (k : PairCtx) (v : Word) : (s.setPair rp k v).Inv := by
  cases rp
  case fourth =>
    cases k
    · exact ⟨h.flags, h.memory, h.stop⟩
    · exact ⟨flagsOk_forceReserved _, h.memory, h.stop⟩
  all_goals exact ⟨h.flags, h.memory, h.stop⟩

end Sys2Proof.Machine
end

