-- ==== Sys2Proof/Laws/Alu.lean ====
section
/-! SUPPORT. The ALU's results and flags in the words of the statements: Z, S and P of a result, the reserved bits kept, and the
effect of an accumulator instruction once (41_alu_flags.md R152 to R157, R162). -/

namespace Sys2Proof.Machine

/-- The 1 bits of a byte, counted either way (R154). -/
theorem countP_eq_popCount (v : Byte) : (List.range 8).countP (fun k => v.getLsbD k) = popCount v := by
  unfold popCount
  simp only [List.range, List.range.loop, List.countP_cons, List.countP_nil, List.map, List.sum_cons, List.sum_nil]
  cases v.getLsbD 0 <;> cases v.getLsbD 1 <;> cases v.getLsbD 2 <;> cases v.getLsbD 3 <;> cases v.getLsbD 4 <;>
    cases v.getLsbD 5 <;> cases v.getLsbD 6 <;> cases v.getLsbD 7 <;> rfl

theorem resultFlags_writeFlags4 (f v : Byte) (cy ac : Bool) : ResultFlags (writeFlags4 f (aluOut v cy ac)) v := by
  simp only [ResultFlags, flagZ_eq, flagS_eq, flagP_eq, getLsbD_writeFlags4]
  refine ⟨?_, ?_, ?_⟩
  · simp [aluOut]
  · simp [aluOut]
  · rw [countP_eq_popCount]; simp [aluOut, parityEven]

theorem resultFlags_writeFlags5 (f v : Byte) (cy ac : Bool) : ResultFlags (writeFlags5 f (aluOut v cy ac)) v := by
  simp only [ResultFlags, flagZ_eq, flagS_eq, flagP_eq, getLsbD_writeFlags5]
  refine ⟨?_, ?_, ?_⟩
  · simp [aluOut]
  · simp [aluOut]
  · rw [countP_eq_popCount]; simp [aluOut, parityEven]

theorem sameBits_writeFlags4 (f : Byte) (r : AluOut) : SameBits [0, 1, 3, 5] f (writeFlags4 f r) := by
  intro k hk
  rw [getLsbD_writeFlags4]
  simp only [List.mem_cons, List.not_mem_nil, or_false] at hk
  rcases hk with rfl | rfl | rfl | rfl <;> rfl

theorem sameBits_writeFlags5 (f : Byte) (r : AluOut) : SameBits [1, 3, 5] f (writeFlags5 f r) := by
  intro k hk
  rw [getLsbD_writeFlags5]
  simp only [List.mem_cons, List.not_mem_nil, or_false] at hk
  rcases hk with rfl | rfl | rfl <;> rfl

theorem sameBits_withCY (f : Byte) (v : Bool) : SameBits [1, 2, 3, 4, 5, 6, 7] f (withCY f v) := by
  intro k hk
  rw [getLsbD_withCY]
  simp only [List.mem_cons, List.not_mem_nil, or_false] at hk
  rcases hk with rfl | rfl | rfl | rfl | rfl | rfl | rfl <;> rfl

/-- The difference of R157, taken in the integers. -/
theorem sub_eq_ofInt (a x : Byte) (cin : Bool) :
    a - x - BitVec.ofNat 8 cin.toNat = BitVec.ofInt 8 (a.toNat - x.toNat - cin.toNat) := by
  apply BitVec.eq_of_toInt_eq
  simp only [BitVec.toInt_sub, BitVec.toInt_ofInt]
  rw [BitVec.toInt_eq_toNat_bmod a, BitVec.toInt_eq_toNat_bmod x]
  cases cin <;> simp

/-- An instruction that writes A and the five flags of an ALU output has the effect the statements speak of. -/
theorem aluEffect_of {i : Instr} {s : State} {v acc : Byte} {cy ac : Bool} {CY AC : Prop} (hcy : cy = true ↔ CY)
    (hac : ac = true ↔ AC) (h : exec i s = .next { s with a := acc, f := writeFlags5 s.f (aluOut v cy ac) }) :
    AluEffect i s v acc CY AC := by
  refine ⟨_, h, rfl, ?_, ?_, resultFlags_writeFlags5 _ _ _ _, sameBits_writeFlags5 _ _, rfl, fun _ => rfl⟩
  · simp only [flagCY_eq, getLsbD_writeFlags5]; simpa [aluOut] using hcy
  · simp only [flagAC_eq, getLsbD_writeFlags5]; simpa [aluOut] using hac

end Sys2Proof.Machine
end

