-- ==== Sys2Proof/Laws/Decode.lean ====
section
/-! SUPPORT. What the decoder does with an instruction of one, of two and of three bytes, and the cases of a byte as numerals. -/

namespace Sys2Proof

open Sys2Proof.Machine

/-- A byte as a number below 256: `interval_cases` on it leaves opcodes that evaluate. -/
theorem exists_byte (op : Byte) : ∃ n, n < 256 ∧ op = BitVec.ofNat 8 n := ⟨op.toNat, op.isLt, by simp⟩

theorem decode_one {op : Byte} (rest : List Byte) (h : opLength op = 1) :
    decode (op :: rest) = .ok (decodeInstr op 0 0, rest) := by simp [decode, h]

theorem decode_two {op b2 : Byte} (f : Byte → Instr) (rest : List Byte) (h : opLength op = 2)
    (hd : decodeInstr op b2 0 = f b2) : decode ([op, b2] ++ rest) = .ok (f b2, rest) := by
  simp only [List.cons_append, List.nil_append, decode, h, hd]

theorem decode_three {op : Byte} (f : Word → Instr) (rest : List Byte) (d16 : Word) (h : opLength op = 3)
    (hd : ∀ b2 b3, decodeInstr op b2 b3 = f (wordOf b3 b2)) :
    decode ((op :: wordBytes d16) ++ rest) = .ok (f d16, rest) := by simp [decode, h, hd, wordBytes]

/-- A word operand put together and taken apart again (R73). -/
theorem bytes_of_wordOf (op b2 b3 : Byte) : op :: wordBytes (wordOf b3 b2) = [op, b2, b3] := by simp [wordBytes]

end Sys2Proof
end

