-- ==== Sys2Proof/Laws/Step.lean ====
section
/-! SUPPORT. The case a step takes, and the step in each case, once (60_exceptions.md R310); that every instruction answers a next
state; and that the shared operations leave the control state alone. -/

namespace Sys2Proof.Machine

/-! ## The cases of the step -/

theorem State.stepCase_stopped {s : State} (h : s.running = false) : s.stepCase = .stopped := by
  simp [State.stepCase, h]

theorem State.stepCase_service {s : State} (h : s.running = true) (hl : s.latch.latched = true) (hi : s.ie = true) :
    s.stepCase = .service s.latch.opcode s.latch.data1 s.latch.data2 := by
  simp [State.stepCase, h, hl, hi]

theorem State.stepCase_idle {s : State} (h : s.running = true) (hn : ¬(s.latch.latched = true ∧ s.ie = true))
    (hh : s.halted = true) : s.stepCase = .idle := by
  simp_all [State.stepCase]

theorem State.stepCase_fetch {s : State} (h : s.running = true) (hn : ¬(s.latch.latched = true ∧ s.ie = true))
    (hh : s.halted = false) :
    s.stepCase = .fetch (s.memRead s.pc) (s.memRead (s.pc + 1)) (s.memRead (s.pc + 2)) := by
  simp_all [State.stepCase]

theorem step_stopped {s : State} (h : s.stepCase = .stopped) : step s = .next s := by simp [step, stepBody, h]

theorem step_service {s : State} {op b2 b3 : Byte} (h : s.stepCase = .service op b2 b3) :
    step s = thenDo (exec (decodeInstr op b2 b3) s.enterInterrupt) (State.endStep s.latch.latched) := by
  simp [step, stepBody, execute, h]

theorem step_idle {s : State} (h : s.stepCase = .idle) : step s = .next (s.endStep s.latch.latched) := by
  simp [step, stepBody, h]

theorem step_fetch {s : State} {op b2 b3 : Byte} (h : s.stepCase = .fetch op b2 b3) :
    step s =
      thenDo (exec (decodeInstr op b2 b3) (s.advance (decodeInstr op b2 b3))) (State.endStep s.latch.latched) := by
  simp [step, stepBody, execute, h]

/-- The four cases of a state, with what holds in each. -/
theorem State.stepCase_cases (s : State) :
    (s.running = false ∧ s.stepCase = .stopped) ∨
    (s.running = true ∧ s.latch.latched = true ∧ s.ie = true ∧
      s.stepCase = .service s.latch.opcode s.latch.data1 s.latch.data2) ∨
    (s.running = true ∧ ¬(s.latch.latched = true ∧ s.ie = true) ∧ s.halted = true ∧ s.stepCase = .idle) ∨
    (s.running = true ∧ ¬(s.latch.latched = true ∧ s.ie = true) ∧ s.halted = false ∧
      s.stepCase = .fetch (s.memRead s.pc) (s.memRead (s.pc + 1)) (s.memRead (s.pc + 2))) := by
  cases hr : s.running
  · exact .inl ⟨rfl, State.stepCase_stopped hr⟩
  · by_cases hn : s.latch.latched = true ∧ s.ie = true
    · exact .inr (.inl ⟨rfl, hn.1, hn.2, State.stepCase_service hr hn.1 hn.2⟩)
    · cases hh : s.halted
      · exact .inr (.inr (.inr ⟨rfl, hn, rfl, State.stepCase_fetch hr hn hh⟩))
      · exact .inr (.inr (.inl ⟨rfl, hn, rfl, State.stepCase_idle hr hn hh⟩))

@[simp] theorem thenDo_next (s : State) (g : State → State) : thenDo (.next s) g = .next (g s) := rfl

@[simp] theorem State.endStep_latched (s : State) (w : Bool) :
    (s.endStep w).latch.latched = (s.latch.latched && !w) := by
  cases w <;> simp [State.endStep]

/-- Every instruction answers a next state: there is no fault, and nothing is refused. -/
theorem exec_next (i : Instr) (s : State) : ∃ t, exec i s = .next t := by
  cases i <;> exact ⟨_, rfl⟩

/-! ## The control state -/

/-- The control state and the configuration are those of `s`. -/
def SameControl (s t : State) : Prop :=
  t.ie = s.ie ∧ t.halted = s.halted ∧ t.running = s.running ∧ t.stopInfo = s.stopInfo ∧ t.latch = s.latch ∧ t.cfg = s.cfg

theorem SameControl.refl (s : State) : SameControl s s := ⟨rfl, rfl, rfl, rfl, rfl, rfl⟩

theorem sameControl_memWrite (s : State) (x : Word) (v : Byte) : SameControl s (s.memWrite x v) := by simp [SameControl]

theorem sameControl_memWrite16 (s : State) (x v : Word) : SameControl s (s.memWrite16 x v) := by
  simp [State.memWrite16, SameControl]

theorem sameControl_setReg8 (s : State) (r : Reg8) (v : Byte) : SameControl s (s.setReg8 r v) := by
  cases r <;> simp [SameControl, State.setReg8]

theorem sameControl_setPair (s : State) (rp : Pair) (k : PairCtx) (v : Word) : SameControl s (s.setPair rp k v) := by
  cases rp <;> cases k <;> simp [SameControl, State.setPair]

theorem sameControl_push16 (s : State) (v : Word) : SameControl s (s.push16 v) := by simp [State.push16, SameControl]

theorem sameControl_call (s : State) (a16 : Word) : SameControl s (s.call a16) := by
  simp [State.call, State.push16, SameControl]

theorem sameControl_ret (s : State) : SameControl s s.ret := ⟨rfl, rfl, rfl, rfl, rfl, rfl⟩

theorem sameControl_jumpIf (s : State) (k : Cond) (a16 : Word) : SameControl s (s.jumpIf k a16) := by
  unfold State.jumpIf; split <;> exact ⟨rfl, rfl, rfl, rfl, rfl, rfl⟩

theorem sameControl_callIf (s : State) (k : Cond) (a16 : Word) : SameControl s (s.callIf k a16) := by
  unfold State.callIf; split
  · exact sameControl_call s a16
  · exact .refl s

theorem sameControl_retIf (s : State) (k : Cond) : SameControl s (s.retIf k) := by
  unfold State.retIf; split
  · exact sameControl_ret s
  · exact .refl s

theorem sameControl_increment (s : State) (r : Reg8) : SameControl s (s.increment r) := by
  cases r <;> simp [State.increment, State.setReg8, SameControl]

theorem sameControl_decrement (s : State) (r : Reg8) : SameControl s (s.decrement r) := by
  cases r <;> simp [State.decrement, State.setReg8, SameControl]

theorem sameControl_addPairToHl (s : State) (rp : Pair) : SameControl s (s.addPairToHl rp) := ⟨rfl, rfl, rfl, rfl, rfl, rfl⟩

theorem sameControl_popPair (s : State) (rp : Pair) : SameControl s (s.popPair rp) := by
  cases rp <;> exact ⟨rfl, rfl, rfl, rfl, rfl, rfl⟩

theorem sameControl_exchangeTop (s : State) : SameControl s s.exchangeTop := by
  simp [State.exchangeTop, State.memWrite16, SameControl]

end Sys2Proof.Machine
end

