-- ==== Sys2Proof/Laws/Invariant.lean ====
section
/-! SUPPORT. That each shared operation of the families keeps the invariant of the state (10_state.md R40, R50, R51). -/

namespace Sys2Proof.Machine

/-- A state that agrees on what the invariant speaks of has it too. -/
theorem State.Inv.of {s t : State} (h : s.Inv) (hf : t.f = s.f) (hm : t.mem = s.mem) (hr : t.running = s.running)
    (hs : t.stopInfo = s.stopInfo) : t.Inv :=
  ⟨by rw [hf]; exact h.flags, by rw [hm]; exact h.memory, by rw [hr, hs]; exact h.stop⟩

theorem State.Inv.memWrite16 {s : State} (h : s.Inv) (x v : Word) : (s.memWrite16 x v).Inv :=
  (h.memWrite x (loByte v)).memWrite (x + 1) (hiByte v)

theorem State.Inv.call {s : State} (h : s.Inv) (a16 : Word) : (s.call a16).Inv := (h.push16 s.pc).of rfl rfl rfl rfl

theorem State.Inv.ret {s : State} (h : s.Inv) : s.ret.Inv := h.of rfl rfl rfl rfl

theorem State.Inv.callIf {s : State} (h : s.Inv) (k : Cond) (a16 : Word) : (s.callIf k a16).Inv := by
  unfold State.callIf; split
  exacts [h.call a16, h]

theorem State.Inv.jumpIf {s : State} (h : s.Inv) (k : Cond) (a16 : Word) : (s.jumpIf k a16).Inv := by
  unfold State.jumpIf; split
  exacts [h.of rfl rfl rfl rfl, h]

theorem State.Inv.retIf {s : State} (h : s.Inv) (k : Cond) : (s.retIf k).Inv := by
  unfold State.retIf; split
  exacts [h.ret, h]

theorem State.Inv.exchangeTop {s : State} (h : s.Inv) : s.exchangeTop.Inv := (h.memWrite16 s.sp s.hl).of rfl rfl rfl rfl

theorem State.Inv.popPair {s : State} (h : s.Inv) (rp : Pair) : (s.popPair rp).Inv :=
  State.Inv.setPair (s := s.dropTop) (h.of rfl rfl rfl rfl) _ _ _

theorem State.Inv.increment {s : State} (h : s.Inv) (r : Reg8) : (s.increment r).Inv :=
  (h.setReg8 r _).setF (flagsOk_writeFlags4 _ h.flags)

theorem State.Inv.decrement {s : State} (h : s.Inv) (r : Reg8) : (s.decrement r).Inv :=
  (h.setReg8 r _).setF (flagsOk_writeFlags4 _ h.flags)

theorem State.Inv.addPairToHl {s : State} (h : s.Inv) (rp : Pair) : (s.addPairToHl rp).Inv :=
  (h.setPair .hl .sp _).setF (flagsOk_withCY _ h.flags)

theorem State.Inv.aluWith {s : State} (h : s.Inv) (op : AluOp) (x : Byte) (trackAc : Bool) : (s.aluWith op x trackAc).Inv :=
  ⟨flagsOk_writeFlags5 _ h.flags, h.memory, h.stop⟩

theorem State.Inv.decimalAdjust {s : State} (h : s.Inv) : s.decimalAdjust.Inv := ⟨flagsOk_daa h.flags, h.memory, h.stop⟩

theorem State.Inv.setACarry {s : State} (h : s.Inv) (v : Byte) (cy : Bool) : (s.setACarry v cy).Inv :=
  ⟨flagsOk_withCY _ h.flags, h.memory, h.stop⟩

theorem State.Inv.fatalStop {s : State} (h : s.Inv) (op : Byte) : (s.fatalStop op).Inv :=
  ⟨h.flags, h.memory, by simp [State.fatalStop]⟩

theorem State.Inv.endStep {s : State} (h : s.Inv) (w : Bool) : (s.endStep w).Inv := by
  unfold State.endStep; split
  exacts [h.of rfl rfl rfl rfl, h]

end Sys2Proof.Machine
end

