-- ==== Sys2Proof/Laws/PerInstr.lean ====
section
/-! SUPPORT. One lemma per constructor of Instr: the encoding of an instruction is as long as its opcode byte says (30_encoding.md R100,
R102, R111), which is one to three bytes. -/

namespace Sys2Proof.Laws.EncodedLength

/-- The encoded length, and its bounds (R100). -/
def Statement (i : Instr) : Prop := i.wf = true → (encode i).length = i.length ∧ 1 ≤ i.length ∧ i.length ≤ 3

/-- The statement from the length the opcode byte gives and the number of operand bytes. -/
theorem of_bytes {i : Instr} (n : Nat) (h : opLength i.opcode = n) (hb : i.operandBytes.length + 1 = n) (hn : 1 ≤ n ∧ n ≤ 3) :
    Statement i := by
  subst hb
  intro _
  rw [Instr.length, h]
  exact ⟨rfl, hn⟩

theorem fatal (op : Byte) : Statement (.fatal op) := by
  revert op
  simp only [Statement, Instr.wf, Instr.fatalByteOk, Instr.length, Instr.opcode, encode, Instr.operandBytes, List.length_singleton]
  decide

theorem nop : Statement .nop := of_bytes 1 (show opLength 0x00#8 = 1 by decide) rfl (by decide)
theorem lxiB (d16 : Word) : Statement (.lxiB d16) := of_bytes 3 (show opLength 0x01#8 = 3 by decide) rfl (by decide)
theorem staxB : Statement .staxB := of_bytes 1 (show opLength 0x02#8 = 1 by decide) rfl (by decide)
theorem inxB : Statement .inxB := of_bytes 1 (show opLength 0x03#8 = 1 by decide) rfl (by decide)
theorem inrB : Statement .inrB := of_bytes 1 (show opLength 0x04#8 = 1 by decide) rfl (by decide)
theorem dcrB : Statement .dcrB := of_bytes 1 (show opLength 0x05#8 = 1 by decide) rfl (by decide)
theorem mviB (d8 : Byte) : Statement (.mviB d8) := of_bytes 2 (show opLength 0x06#8 = 2 by decide) rfl (by decide)
theorem rlc : Statement .rlc := of_bytes 1 (show opLength 0x07#8 = 1 by decide) rfl (by decide)
theorem dadB : Statement .dadB := of_bytes 1 (show opLength 0x09#8 = 1 by decide) rfl (by decide)
theorem ldaxB : Statement .ldaxB := of_bytes 1 (show opLength 0x0A#8 = 1 by decide) rfl (by decide)
theorem dcxB : Statement .dcxB := of_bytes 1 (show opLength 0x0B#8 = 1 by decide) rfl (by decide)
theorem inrC : Statement .inrC := of_bytes 1 (show opLength 0x0C#8 = 1 by decide) rfl (by decide)
theorem dcrC : Statement .dcrC := of_bytes 1 (show opLength 0x0D#8 = 1 by decide) rfl (by decide)
theorem mviC (d8 : Byte) : Statement (.mviC d8) := of_bytes 2 (show opLength 0x0E#8 = 2 by decide) rfl (by decide)
theorem rrc : Statement .rrc := of_bytes 1 (show opLength 0x0F#8 = 1 by decide) rfl (by decide)
theorem lxiD (d16 : Word) : Statement (.lxiD d16) := of_bytes 3 (show opLength 0x11#8 = 3 by decide) rfl (by decide)
theorem staxD : Statement .staxD := of_bytes 1 (show opLength 0x12#8 = 1 by decide) rfl (by decide)
theorem inxD : Statement .inxD := of_bytes 1 (show opLength 0x13#8 = 1 by decide) rfl (by decide)
theorem inrD : Statement .inrD := of_bytes 1 (show opLength 0x14#8 = 1 by decide) rfl (by decide)
theorem dcrD : Statement .dcrD := of_bytes 1 (show opLength 0x15#8 = 1 by decide) rfl (by decide)
theorem mviD (d8 : Byte) : Statement (.mviD d8) := of_bytes 2 (show opLength 0x16#8 = 2 by decide) rfl (by decide)
theorem ral : Statement .ral := of_bytes 1 (show opLength 0x17#8 = 1 by decide) rfl (by decide)
theorem dadD : Statement .dadD := of_bytes 1 (show opLength 0x19#8 = 1 by decide) rfl (by decide)
theorem ldaxD : Statement .ldaxD := of_bytes 1 (show opLength 0x1A#8 = 1 by decide) rfl (by decide)
theorem dcxD : Statement .dcxD := of_bytes 1 (show opLength 0x1B#8 = 1 by decide) rfl (by decide)
theorem inrE : Statement .inrE := of_bytes 1 (show opLength 0x1C#8 = 1 by decide) rfl (by decide)
theorem dcrE : Statement .dcrE := of_bytes 1 (show opLength 0x1D#8 = 1 by decide) rfl (by decide)
theorem mviE (d8 : Byte) : Statement (.mviE d8) := of_bytes 2 (show opLength 0x1E#8 = 2 by decide) rfl (by decide)
theorem rar : Statement .rar := of_bytes 1 (show opLength 0x1F#8 = 1 by decide) rfl (by decide)
theorem lxiH (d16 : Word) : Statement (.lxiH d16) := of_bytes 3 (show opLength 0x21#8 = 3 by decide) rfl (by decide)
theorem shld (a16 : Word) : Statement (.shld a16) := of_bytes 3 (show opLength 0x22#8 = 3 by decide) rfl (by decide)
theorem inxH : Statement .inxH := of_bytes 1 (show opLength 0x23#8 = 1 by decide) rfl (by decide)
theorem inrH : Statement .inrH := of_bytes 1 (show opLength 0x24#8 = 1 by decide) rfl (by decide)
theorem dcrH : Statement .dcrH := of_bytes 1 (show opLength 0x25#8 = 1 by decide) rfl (by decide)
theorem mviH (d8 : Byte) : Statement (.mviH d8) := of_bytes 2 (show opLength 0x26#8 = 2 by decide) rfl (by decide)
theorem daa : Statement .daa := of_bytes 1 (show opLength 0x27#8 = 1 by decide) rfl (by decide)
theorem dadH : Statement .dadH := of_bytes 1 (show opLength 0x29#8 = 1 by decide) rfl (by decide)
theorem lhld (a16 : Word) : Statement (.lhld a16) := of_bytes 3 (show opLength 0x2A#8 = 3 by decide) rfl (by decide)
theorem dcxH : Statement .dcxH := of_bytes 1 (show opLength 0x2B#8 = 1 by decide) rfl (by decide)
theorem inrL : Statement .inrL := of_bytes 1 (show opLength 0x2C#8 = 1 by decide) rfl (by decide)
theorem dcrL : Statement .dcrL := of_bytes 1 (show opLength 0x2D#8 = 1 by decide) rfl (by decide)
theorem mviL (d8 : Byte) : Statement (.mviL d8) := of_bytes 2 (show opLength 0x2E#8 = 2 by decide) rfl (by decide)
theorem cma : Statement .cma := of_bytes 1 (show opLength 0x2F#8 = 1 by decide) rfl (by decide)
theorem lxiSp (d16 : Word) : Statement (.lxiSp d16) := of_bytes 3 (show opLength 0x31#8 = 3 by decide) rfl (by decide)
theorem sta (a16 : Word) : Statement (.sta a16) := of_bytes 3 (show opLength 0x32#8 = 3 by decide) rfl (by decide)
theorem inxSp : Statement .inxSp := of_bytes 1 (show opLength 0x33#8 = 1 by decide) rfl (by decide)
theorem inrM : Statement .inrM := of_bytes 1 (show opLength 0x34#8 = 1 by decide) rfl (by decide)
theorem dcrM : Statement .dcrM := of_bytes 1 (show opLength 0x35#8 = 1 by decide) rfl (by decide)
theorem mviM (d8 : Byte) : Statement (.mviM d8) := of_bytes 2 (show opLength 0x36#8 = 2 by decide) rfl (by decide)
theorem stc : Statement .stc := of_bytes 1 (show opLength 0x37#8 = 1 by decide) rfl (by decide)
theorem dadSp : Statement .dadSp := of_bytes 1 (show opLength 0x39#8 = 1 by decide) rfl (by decide)
theorem lda (a16 : Word) : Statement (.lda a16) := of_bytes 3 (show opLength 0x3A#8 = 3 by decide) rfl (by decide)
theorem dcxSp : Statement .dcxSp := of_bytes 1 (show opLength 0x3B#8 = 1 by decide) rfl (by decide)
theorem inrA : Statement .inrA := of_bytes 1 (show opLength 0x3C#8 = 1 by decide) rfl (by decide)
theorem dcrA : Statement .dcrA := of_bytes 1 (show opLength 0x3D#8 = 1 by decide) rfl (by decide)
theorem mviA (d8 : Byte) : Statement (.mviA d8) := of_bytes 2 (show opLength 0x3E#8 = 2 by decide) rfl (by decide)
theorem cmc : Statement .cmc := of_bytes 1 (show opLength 0x3F#8 = 1 by decide) rfl (by decide)
theorem movBB : Statement .movBB := of_bytes 1 (show opLength 0x40#8 = 1 by decide) rfl (by decide)
theorem movBC : Statement .movBC := of_bytes 1 (show opLength 0x41#8 = 1 by decide) rfl (by decide)
theorem movBD : Statement .movBD := of_bytes 1 (show opLength 0x42#8 = 1 by decide) rfl (by decide)
theorem movBE : Statement .movBE := of_bytes 1 (show opLength 0x43#8 = 1 by decide) rfl (by decide)
theorem movBH : Statement .movBH := of_bytes 1 (show opLength 0x44#8 = 1 by decide) rfl (by decide)
theorem movBL : Statement .movBL := of_bytes 1 (show opLength 0x45#8 = 1 by decide) rfl (by decide)
theorem movBM : Statement .movBM := of_bytes 1 (show opLength 0x46#8 = 1 by decide) rfl (by decide)
theorem movBA : Statement .movBA := of_bytes 1 (show opLength 0x47#8 = 1 by decide) rfl (by decide)
theorem movCB : Statement .movCB := of_bytes 1 (show opLength 0x48#8 = 1 by decide) rfl (by decide)
theorem movCC : Statement .movCC := of_bytes 1 (show opLength 0x49#8 = 1 by decide) rfl (by decide)
theorem movCD : Statement .movCD := of_bytes 1 (show opLength 0x4A#8 = 1 by decide) rfl (by decide)
theorem movCE : Statement .movCE := of_bytes 1 (show opLength 0x4B#8 = 1 by decide) rfl (by decide)
theorem movCH : Statement .movCH := of_bytes 1 (show opLength 0x4C#8 = 1 by decide) rfl (by decide)
theorem movCL : Statement .movCL := of_bytes 1 (show opLength 0x4D#8 = 1 by decide) rfl (by decide)
theorem movCM : Statement .movCM := of_bytes 1 (show opLength 0x4E#8 = 1 by decide) rfl (by decide)
theorem movCA : Statement .movCA := of_bytes 1 (show opLength 0x4F#8 = 1 by decide) rfl (by decide)
theorem movDB : Statement .movDB := of_bytes 1 (show opLength 0x50#8 = 1 by decide) rfl (by decide)
theorem movDC : Statement .movDC := of_bytes 1 (show opLength 0x51#8 = 1 by decide) rfl (by decide)
theorem movDD : Statement .movDD := of_bytes 1 (show opLength 0x52#8 = 1 by decide) rfl (by decide)
theorem movDE : Statement .movDE := of_bytes 1 (show opLength 0x53#8 = 1 by decide) rfl (by decide)
theorem movDH : Statement .movDH := of_bytes 1 (show opLength 0x54#8 = 1 by decide) rfl (by decide)
theorem movDL : Statement .movDL := of_bytes 1 (show opLength 0x55#8 = 1 by decide) rfl (by decide)
theorem movDM : Statement .movDM := of_bytes 1 (show opLength 0x56#8 = 1 by decide) rfl (by decide)
theorem movDA : Statement .movDA := of_bytes 1 (show opLength 0x57#8 = 1 by decide) rfl (by decide)
theorem movEB : Statement .movEB := of_bytes 1 (show opLength 0x58#8 = 1 by decide) rfl (by decide)
theorem movEC : Statement .movEC := of_bytes 1 (show opLength 0x59#8 = 1 by decide) rfl (by decide)
theorem movED : Statement .movED := of_bytes 1 (show opLength 0x5A#8 = 1 by decide) rfl (by decide)
theorem movEE : Statement .movEE := of_bytes 1 (show opLength 0x5B#8 = 1 by decide) rfl (by decide)
theorem movEH : Statement .movEH := of_bytes 1 (show opLength 0x5C#8 = 1 by decide) rfl (by decide)
theorem movEL : Statement .movEL := of_bytes 1 (show opLength 0x5D#8 = 1 by decide) rfl (by decide)
theorem movEM : Statement .movEM := of_bytes 1 (show opLength 0x5E#8 = 1 by decide) rfl (by decide)
theorem movEA : Statement .movEA := of_bytes 1 (show opLength 0x5F#8 = 1 by decide) rfl (by decide)
theorem movHB : Statement .movHB := of_bytes 1 (show opLength 0x60#8 = 1 by decide) rfl (by decide)
theorem movHC : Statement .movHC := of_bytes 1 (show opLength 0x61#8 = 1 by decide) rfl (by decide)
theorem movHD : Statement .movHD := of_bytes 1 (show opLength 0x62#8 = 1 by decide) rfl (by decide)
theorem movHE : Statement .movHE := of_bytes 1 (show opLength 0x63#8 = 1 by decide) rfl (by decide)
theorem movHH : Statement .movHH := of_bytes 1 (show opLength 0x64#8 = 1 by decide) rfl (by decide)
theorem movHL : Statement .movHL := of_bytes 1 (show opLength 0x65#8 = 1 by decide) rfl (by decide)
theorem movHM : Statement .movHM := of_bytes 1 (show opLength 0x66#8 = 1 by decide) rfl (by decide)
theorem movHA : Statement .movHA := of_bytes 1 (show opLength 0x67#8 = 1 by decide) rfl (by decide)
theorem movLB : Statement .movLB := of_bytes 1 (show opLength 0x68#8 = 1 by decide) rfl (by decide)
theorem movLC : Statement .movLC := of_bytes 1 (show opLength 0x69#8 = 1 by decide) rfl (by decide)
theorem movLD : Statement .movLD := of_bytes 1 (show opLength 0x6A#8 = 1 by decide) rfl (by decide)
theorem movLE : Statement .movLE := of_bytes 1 (show opLength 0x6B#8 = 1 by decide) rfl (by decide)
theorem movLH : Statement .movLH := of_bytes 1 (show opLength 0x6C#8 = 1 by decide) rfl (by decide)
theorem movLL : Statement .movLL := of_bytes 1 (show opLength 0x6D#8 = 1 by decide) rfl (by decide)
theorem movLM : Statement .movLM := of_bytes 1 (show opLength 0x6E#8 = 1 by decide) rfl (by decide)
theorem movLA : Statement .movLA := of_bytes 1 (show opLength 0x6F#8 = 1 by decide) rfl (by decide)
theorem movMB : Statement .movMB := of_bytes 1 (show opLength 0x70#8 = 1 by decide) rfl (by decide)
theorem movMC : Statement .movMC := of_bytes 1 (show opLength 0x71#8 = 1 by decide) rfl (by decide)
theorem movMD : Statement .movMD := of_bytes 1 (show opLength 0x72#8 = 1 by decide) rfl (by decide)
theorem movME : Statement .movME := of_bytes 1 (show opLength 0x73#8 = 1 by decide) rfl (by decide)
theorem movMH : Statement .movMH := of_bytes 1 (show opLength 0x74#8 = 1 by decide) rfl (by decide)
theorem movML : Statement .movML := of_bytes 1 (show opLength 0x75#8 = 1 by decide) rfl (by decide)
theorem hlt : Statement .hlt := of_bytes 1 (show opLength 0x76#8 = 1 by decide) rfl (by decide)
theorem movMA : Statement .movMA := of_bytes 1 (show opLength 0x77#8 = 1 by decide) rfl (by decide)
theorem movAB : Statement .movAB := of_bytes 1 (show opLength 0x78#8 = 1 by decide) rfl (by decide)
theorem movAC : Statement .movAC := of_bytes 1 (show opLength 0x79#8 = 1 by decide) rfl (by decide)
theorem movAD : Statement .movAD := of_bytes 1 (show opLength 0x7A#8 = 1 by decide) rfl (by decide)
theorem movAE : Statement .movAE := of_bytes 1 (show opLength 0x7B#8 = 1 by decide) rfl (by decide)
theorem movAH : Statement .movAH := of_bytes 1 (show opLength 0x7C#8 = 1 by decide) rfl (by decide)
theorem movAL : Statement .movAL := of_bytes 1 (show opLength 0x7D#8 = 1 by decide) rfl (by decide)
theorem movAM : Statement .movAM := of_bytes 1 (show opLength 0x7E#8 = 1 by decide) rfl (by decide)
theorem movAA : Statement .movAA := of_bytes 1 (show opLength 0x7F#8 = 1 by decide) rfl (by decide)
theorem addB : Statement .addB := of_bytes 1 (show opLength 0x80#8 = 1 by decide) rfl (by decide)
theorem addC : Statement .addC := of_bytes 1 (show opLength 0x81#8 = 1 by decide) rfl (by decide)
theorem addD : Statement .addD := of_bytes 1 (show opLength 0x82#8 = 1 by decide) rfl (by decide)
theorem addE : Statement .addE := of_bytes 1 (show opLength 0x83#8 = 1 by decide) rfl (by decide)
theorem addH : Statement .addH := of_bytes 1 (show opLength 0x84#8 = 1 by decide) rfl (by decide)
theorem addL : Statement .addL := of_bytes 1 (show opLength 0x85#8 = 1 by decide) rfl (by decide)
theorem addM : Statement .addM := of_bytes 1 (show opLength 0x86#8 = 1 by decide) rfl (by decide)
theorem addA : Statement .addA := of_bytes 1 (show opLength 0x87#8 = 1 by decide) rfl (by decide)
theorem adcB : Statement .adcB := of_bytes 1 (show opLength 0x88#8 = 1 by decide) rfl (by decide)
theorem adcC : Statement .adcC := of_bytes 1 (show opLength 0x89#8 = 1 by decide) rfl (by decide)
theorem adcD : Statement .adcD := of_bytes 1 (show opLength 0x8A#8 = 1 by decide) rfl (by decide)
theorem adcE : Statement .adcE := of_bytes 1 (show opLength 0x8B#8 = 1 by decide) rfl (by decide)
theorem adcH : Statement .adcH := of_bytes 1 (show opLength 0x8C#8 = 1 by decide) rfl (by decide)
theorem adcL : Statement .adcL := of_bytes 1 (show opLength 0x8D#8 = 1 by decide) rfl (by decide)
theorem adcM : Statement .adcM := of_bytes 1 (show opLength 0x8E#8 = 1 by decide) rfl (by decide)
theorem adcA : Statement .adcA := of_bytes 1 (show opLength 0x8F#8 = 1 by decide) rfl (by decide)
theorem subB : Statement .subB := of_bytes 1 (show opLength 0x90#8 = 1 by decide) rfl (by decide)
theorem subC : Statement .subC := of_bytes 1 (show opLength 0x91#8 = 1 by decide) rfl (by decide)
theorem subD : Statement .subD := of_bytes 1 (show opLength 0x92#8 = 1 by decide) rfl (by decide)
theorem subE : Statement .subE := of_bytes 1 (show opLength 0x93#8 = 1 by decide) rfl (by decide)
theorem subH : Statement .subH := of_bytes 1 (show opLength 0x94#8 = 1 by decide) rfl (by decide)
theorem subL : Statement .subL := of_bytes 1 (show opLength 0x95#8 = 1 by decide) rfl (by decide)
theorem subM : Statement .subM := of_bytes 1 (show opLength 0x96#8 = 1 by decide) rfl (by decide)
theorem subA : Statement .subA := of_bytes 1 (show opLength 0x97#8 = 1 by decide) rfl (by decide)
theorem sbbB : Statement .sbbB := of_bytes 1 (show opLength 0x98#8 = 1 by decide) rfl (by decide)
theorem sbbC : Statement .sbbC := of_bytes 1 (show opLength 0x99#8 = 1 by decide) rfl (by decide)
theorem sbbD : Statement .sbbD := of_bytes 1 (show opLength 0x9A#8 = 1 by decide) rfl (by decide)
theorem sbbE : Statement .sbbE := of_bytes 1 (show opLength 0x9B#8 = 1 by decide) rfl (by decide)
theorem sbbH : Statement .sbbH := of_bytes 1 (show opLength 0x9C#8 = 1 by decide) rfl (by decide)
theorem sbbL : Statement .sbbL := of_bytes 1 (show opLength 0x9D#8 = 1 by decide) rfl (by decide)
theorem sbbM : Statement .sbbM := of_bytes 1 (show opLength 0x9E#8 = 1 by decide) rfl (by decide)
theorem sbbA : Statement .sbbA := of_bytes 1 (show opLength 0x9F#8 = 1 by decide) rfl (by decide)
theorem anaB : Statement .anaB := of_bytes 1 (show opLength 0xA0#8 = 1 by decide) rfl (by decide)
theorem anaC : Statement .anaC := of_bytes 1 (show opLength 0xA1#8 = 1 by decide) rfl (by decide)
theorem anaD : Statement .anaD := of_bytes 1 (show opLength 0xA2#8 = 1 by decide) rfl (by decide)
theorem anaE : Statement .anaE := of_bytes 1 (show opLength 0xA3#8 = 1 by decide) rfl (by decide)
theorem anaH : Statement .anaH := of_bytes 1 (show opLength 0xA4#8 = 1 by decide) rfl (by decide)
theorem anaL : Statement .anaL := of_bytes 1 (show opLength 0xA5#8 = 1 by decide) rfl (by decide)
theorem anaM : Statement .anaM := of_bytes 1 (show opLength 0xA6#8 = 1 by decide) rfl (by decide)
theorem anaA : Statement .anaA := of_bytes 1 (show opLength 0xA7#8 = 1 by decide) rfl (by decide)
theorem xraB : Statement .xraB := of_bytes 1 (show opLength 0xA8#8 = 1 by decide) rfl (by decide)
theorem xraC : Statement .xraC := of_bytes 1 (show opLength 0xA9#8 = 1 by decide) rfl (by decide)
theorem xraD : Statement .xraD := of_bytes 1 (show opLength 0xAA#8 = 1 by decide) rfl (by decide)
theorem xraE : Statement .xraE := of_bytes 1 (show opLength 0xAB#8 = 1 by decide) rfl (by decide)
theorem xraH : Statement .xraH := of_bytes 1 (show opLength 0xAC#8 = 1 by decide) rfl (by decide)
theorem xraL : Statement .xraL := of_bytes 1 (show opLength 0xAD#8 = 1 by decide) rfl (by decide)
theorem xraM : Statement .xraM := of_bytes 1 (show opLength 0xAE#8 = 1 by decide) rfl (by decide)
theorem xraA : Statement .xraA := of_bytes 1 (show opLength 0xAF#8 = 1 by decide) rfl (by decide)
theorem oraB : Statement .oraB := of_bytes 1 (show opLength 0xB0#8 = 1 by decide) rfl (by decide)
theorem oraC : Statement .oraC := of_bytes 1 (show opLength 0xB1#8 = 1 by decide) rfl (by decide)
theorem oraD : Statement .oraD := of_bytes 1 (show opLength 0xB2#8 = 1 by decide) rfl (by decide)
theorem oraE : Statement .oraE := of_bytes 1 (show opLength 0xB3#8 = 1 by decide) rfl (by decide)
theorem oraH : Statement .oraH := of_bytes 1 (show opLength 0xB4#8 = 1 by decide) rfl (by decide)
theorem oraL : Statement .oraL := of_bytes 1 (show opLength 0xB5#8 = 1 by decide) rfl (by decide)
theorem oraM : Statement .oraM := of_bytes 1 (show opLength 0xB6#8 = 1 by decide) rfl (by decide)
theorem oraA : Statement .oraA := of_bytes 1 (show opLength 0xB7#8 = 1 by decide) rfl (by decide)
theorem cmpB : Statement .cmpB := of_bytes 1 (show opLength 0xB8#8 = 1 by decide) rfl (by decide)
theorem cmpC : Statement .cmpC := of_bytes 1 (show opLength 0xB9#8 = 1 by decide) rfl (by decide)
theorem cmpD : Statement .cmpD := of_bytes 1 (show opLength 0xBA#8 = 1 by decide) rfl (by decide)
theorem cmpE : Statement .cmpE := of_bytes 1 (show opLength 0xBB#8 = 1 by decide) rfl (by decide)
theorem cmpH : Statement .cmpH := of_bytes 1 (show opLength 0xBC#8 = 1 by decide) rfl (by decide)
theorem cmpL : Statement .cmpL := of_bytes 1 (show opLength 0xBD#8 = 1 by decide) rfl (by decide)
theorem cmpM : Statement .cmpM := of_bytes 1 (show opLength 0xBE#8 = 1 by decide) rfl (by decide)
theorem cmpA : Statement .cmpA := of_bytes 1 (show opLength 0xBF#8 = 1 by decide) rfl (by decide)
theorem rnz : Statement .rnz := of_bytes 1 (show opLength 0xC0#8 = 1 by decide) rfl (by decide)
theorem popB : Statement .popB := of_bytes 1 (show opLength 0xC1#8 = 1 by decide) rfl (by decide)
theorem jnz (a16 : Word) : Statement (.jnz a16) := of_bytes 3 (show opLength 0xC2#8 = 3 by decide) rfl (by decide)
theorem jmp (a16 : Word) : Statement (.jmp a16) := of_bytes 3 (show opLength 0xC3#8 = 3 by decide) rfl (by decide)
theorem cnz (a16 : Word) : Statement (.cnz a16) := of_bytes 3 (show opLength 0xC4#8 = 3 by decide) rfl (by decide)
theorem pushB : Statement .pushB := of_bytes 1 (show opLength 0xC5#8 = 1 by decide) rfl (by decide)
theorem adi (d8 : Byte) : Statement (.adi d8) := of_bytes 2 (show opLength 0xC6#8 = 2 by decide) rfl (by decide)
theorem rst0 : Statement .rst0 := of_bytes 1 (show opLength 0xC7#8 = 1 by decide) rfl (by decide)
theorem rz : Statement .rz := of_bytes 1 (show opLength 0xC8#8 = 1 by decide) rfl (by decide)
theorem ret : Statement .ret := of_bytes 1 (show opLength 0xC9#8 = 1 by decide) rfl (by decide)
theorem jz (a16 : Word) : Statement (.jz a16) := of_bytes 3 (show opLength 0xCA#8 = 3 by decide) rfl (by decide)
theorem cz (a16 : Word) : Statement (.cz a16) := of_bytes 3 (show opLength 0xCC#8 = 3 by decide) rfl (by decide)
theorem call (a16 : Word) : Statement (.call a16) := of_bytes 3 (show opLength 0xCD#8 = 3 by decide) rfl (by decide)
theorem aci (d8 : Byte) : Statement (.aci d8) := of_bytes 2 (show opLength 0xCE#8 = 2 by decide) rfl (by decide)
theorem rst1 : Statement .rst1 := of_bytes 1 (show opLength 0xCF#8 = 1 by decide) rfl (by decide)
theorem rnc : Statement .rnc := of_bytes 1 (show opLength 0xD0#8 = 1 by decide) rfl (by decide)
theorem popD : Statement .popD := of_bytes 1 (show opLength 0xD1#8 = 1 by decide) rfl (by decide)
theorem jnc (a16 : Word) : Statement (.jnc a16) := of_bytes 3 (show opLength 0xD2#8 = 3 by decide) rfl (by decide)
theorem out (port : Byte) : Statement (.out port) := of_bytes 2 (show opLength 0xD3#8 = 2 by decide) rfl (by decide)
theorem cnc (a16 : Word) : Statement (.cnc a16) := of_bytes 3 (show opLength 0xD4#8 = 3 by decide) rfl (by decide)
theorem pushD : Statement .pushD := of_bytes 1 (show opLength 0xD5#8 = 1 by decide) rfl (by decide)
theorem sui (d8 : Byte) : Statement (.sui d8) := of_bytes 2 (show opLength 0xD6#8 = 2 by decide) rfl (by decide)
theorem rst2 : Statement .rst2 := of_bytes 1 (show opLength 0xD7#8 = 1 by decide) rfl (by decide)
theorem rc : Statement .rc := of_bytes 1 (show opLength 0xD8#8 = 1 by decide) rfl (by decide)
theorem jc (a16 : Word) : Statement (.jc a16) := of_bytes 3 (show opLength 0xDA#8 = 3 by decide) rfl (by decide)
theorem inp (port : Byte) : Statement (.inp port) := of_bytes 2 (show opLength 0xDB#8 = 2 by decide) rfl (by decide)
theorem cc (a16 : Word) : Statement (.cc a16) := of_bytes 3 (show opLength 0xDC#8 = 3 by decide) rfl (by decide)
theorem sbi (d8 : Byte) : Statement (.sbi d8) := of_bytes 2 (show opLength 0xDE#8 = 2 by decide) rfl (by decide)
theorem rst3 : Statement .rst3 := of_bytes 1 (show opLength 0xDF#8 = 1 by decide) rfl (by decide)
theorem rpo : Statement .rpo := of_bytes 1 (show opLength 0xE0#8 = 1 by decide) rfl (by decide)
theorem popH : Statement .popH := of_bytes 1 (show opLength 0xE1#8 = 1 by decide) rfl (by decide)
theorem jpo (a16 : Word) : Statement (.jpo a16) := of_bytes 3 (show opLength 0xE2#8 = 3 by decide) rfl (by decide)
theorem xthl : Statement .xthl := of_bytes 1 (show opLength 0xE3#8 = 1 by decide) rfl (by decide)
theorem cpo (a16 : Word) : Statement (.cpo a16) := of_bytes 3 (show opLength 0xE4#8 = 3 by decide) rfl (by decide)
theorem pushH : Statement .pushH := of_bytes 1 (show opLength 0xE5#8 = 1 by decide) rfl (by decide)
theorem ani (d8 : Byte) : Statement (.ani d8) := of_bytes 2 (show opLength 0xE6#8 = 2 by decide) rfl (by decide)
theorem rst4 : Statement .rst4 := of_bytes 1 (show opLength 0xE7#8 = 1 by decide) rfl (by decide)
theorem rpe : Statement .rpe := of_bytes 1 (show opLength 0xE8#8 = 1 by decide) rfl (by decide)
theorem pchl : Statement .pchl := of_bytes 1 (show opLength 0xE9#8 = 1 by decide) rfl (by decide)
theorem jpe (a16 : Word) : Statement (.jpe a16) := of_bytes 3 (show opLength 0xEA#8 = 3 by decide) rfl (by decide)
theorem xchg : Statement .xchg := of_bytes 1 (show opLength 0xEB#8 = 1 by decide) rfl (by decide)
theorem cpe (a16 : Word) : Statement (.cpe a16) := of_bytes 3 (show opLength 0xEC#8 = 3 by decide) rfl (by decide)
theorem xri (d8 : Byte) : Statement (.xri d8) := of_bytes 2 (show opLength 0xEE#8 = 2 by decide) rfl (by decide)
theorem rst5 : Statement .rst5 := of_bytes 1 (show opLength 0xEF#8 = 1 by decide) rfl (by decide)
theorem rp : Statement .rp := of_bytes 1 (show opLength 0xF0#8 = 1 by decide) rfl (by decide)
theorem popPsw : Statement .popPsw := of_bytes 1 (show opLength 0xF1#8 = 1 by decide) rfl (by decide)
theorem jp (a16 : Word) : Statement (.jp a16) := of_bytes 3 (show opLength 0xF2#8 = 3 by decide) rfl (by decide)
theorem di : Statement .di := of_bytes 1 (show opLength 0xF3#8 = 1 by decide) rfl (by decide)
theorem cp (a16 : Word) : Statement (.cp a16) := of_bytes 3 (show opLength 0xF4#8 = 3 by decide) rfl (by decide)
theorem pushPsw : Statement .pushPsw := of_bytes 1 (show opLength 0xF5#8 = 1 by decide) rfl (by decide)
theorem ori (d8 : Byte) : Statement (.ori d8) := of_bytes 2 (show opLength 0xF6#8 = 2 by decide) rfl (by decide)
theorem rst6 : Statement .rst6 := of_bytes 1 (show opLength 0xF7#8 = 1 by decide) rfl (by decide)
theorem rm : Statement .rm := of_bytes 1 (show opLength 0xF8#8 = 1 by decide) rfl (by decide)
theorem sphl : Statement .sphl := of_bytes 1 (show opLength 0xF9#8 = 1 by decide) rfl (by decide)
theorem jm (a16 : Word) : Statement (.jm a16) := of_bytes 3 (show opLength 0xFA#8 = 3 by decide) rfl (by decide)
theorem ei : Statement .ei := of_bytes 1 (show opLength 0xFB#8 = 1 by decide) rfl (by decide)
theorem cm (a16 : Word) : Statement (.cm a16) := of_bytes 3 (show opLength 0xFC#8 = 3 by decide) rfl (by decide)
theorem cpi (d8 : Byte) : Statement (.cpi d8) := of_bytes 2 (show opLength 0xFE#8 = 2 by decide) rfl (by decide)
theorem rst7 : Statement .rst7 := of_bytes 1 (show opLength 0xFF#8 = 1 by decide) rfl (by decide)

end Sys2Proof.Laws.EncodedLength
end

