-- ==== Sys2Proof/Tests/Slice0.lean ====
section
/-! SUPPORT. Tests of the model. The expected results are the spec's: 95_test_vectors.md's vectors under their own names, and words
written out from the encodings of 30_encoding.md. At the end, for each statement with hypotheses, a state and operands that meet
them. -/

open Sys2Proof Sys2Proof.Machine

namespace Sys2Proof.Tests

/-- `s` with bytes at `pc`, and `pc` there. -/
def load (pc : Nat) (bytes : List Byte) (s : State) : State :=
  { s with pc := BitVec.ofNat 16 pc, mem := s.mem.bulkWrite pc bytes }

/-- The next state of an outcome. -/
def nextOf (r : Result) : Option State :=
  match r with
  | .next t => some t
  | .fault _ => none
  | .refused _ => none

/-- One step from `s` answers the state `g` makes of it. -/
abbrev StepTo (s : State) (g : State → State) : Prop := nextOf (step s) = some (g s)

/-- The encoding of `i` fills the first bytes at `pc` in `s`. -/
abbrev BytesAtPc (s : State) (i : Instr) : Prop :=
  ∀ k : Fin (encode i).length, s.memRead (s.pc + BitVec.ofNat 16 k.val) = (encode i)[k.val]

/-! ## Well-formedness (30_encoding.md R104) -/

theorem test_wf_refuses_a_defined_opcode : (Instr.fatal 0x00#8).wf = false := by decide

theorem test_wf_refuses_the_neighbour_of_a_fatal_opcode : (Instr.fatal 0xEC#8).wf = false := by decide

theorem test_wf_accepts_a_fatal_opcode : (Instr.fatal 0xED#8).wf = true := by decide

/-! ## Decoding: words written out from the encodings (42_data_transfer.md to 46_stack_io_machine.md) -/

theorem test_decode_mov_c_b : decodeInstr 0b01001000#8 0 0 = .movCB := by decide

theorem test_decode_mov_l_m : decodeInstr 0b01101110#8 0 0 = .movLM := by decide

theorem test_decode_mov_m_a : decodeInstr 0b01110111#8 0 0 = .movMA := by decide

theorem test_decode_hlt_not_mov_m_m : decodeInstr 0b01110110#8 0 0 = .hlt := by decide

theorem test_decode_mvi_d : decodeInstr 0b00010110#8 0x5A#8 0 = .mviD 0x5A#8 := by decide

theorem test_decode_mvi_m : decodeInstr 0b00110110#8 0x7F#8 0 = .mviM 0x7F#8 := by decide

theorem test_decode_lxi_h : decodeInstr 0b00100001#8 0x34#8 0x12#8 = .lxiH 0x1234#16 := by decide

theorem test_decode_lda : decodeInstr 0b00111010#8 0x50#8 0x20#8 = .lda 0x2050#16 := by decide

theorem test_decode_shld : decodeInstr 0b00100010#8 0x00#8 0x20#8 = .shld 0x2000#16 := by decide

theorem test_decode_stax_d : decodeInstr 0b00010010#8 0 0 = .staxD := by decide

theorem test_decode_ldax_b : decodeInstr 0b00001010#8 0 0 = .ldaxB := by decide

theorem test_decode_xchg : decodeInstr 0b11101011#8 0 0 = .xchg := by decide

theorem test_decode_adc_m : decodeInstr 0b10001110#8 0 0 = .adcM := by decide

theorem test_decode_sub_e : decodeInstr 0b10010011#8 0 0 = .subE := by decide

theorem test_decode_cmp_a : decodeInstr 0b10111111#8 0 0 = .cmpA := by decide

theorem test_decode_xri : decodeInstr 0b11101110#8 0x0F#8 0 = .xri 0x0F#8 := by decide

theorem test_decode_inr_l : decodeInstr 0b00101100#8 0 0 = .inrL := by decide

theorem test_decode_dcr_m : decodeInstr 0b00110101#8 0 0 = .dcrM := by decide

theorem test_decode_inx_sp : decodeInstr 0b00110011#8 0 0 = .inxSp := by decide

theorem test_decode_dad_d : decodeInstr 0b00011001#8 0 0 = .dadD := by decide

theorem test_decode_daa : decodeInstr 0b00100111#8 0 0 = .daa := by decide

theorem test_decode_ral : decodeInstr 0b00010111#8 0 0 = .ral := by decide

theorem test_decode_cmc : decodeInstr 0b00111111#8 0 0 = .cmc := by decide

theorem test_decode_jpo : decodeInstr 0b11100010#8 0x00#8 0x02#8 = .jpo 0x0200#16 := by decide

theorem test_decode_cm : decodeInstr 0b11111100#8 0x34#8 0x12#8 = .cm 0x1234#16 := by decide

theorem test_decode_rpe : decodeInstr 0b11101000#8 0 0 = .rpe := by decide

theorem test_decode_rst5 : decodeInstr 0b11101111#8 0 0 = .rst5 := by decide

theorem test_decode_pchl : decodeInstr 0b11101001#8 0 0 = .pchl := by decide

theorem test_decode_push_h : decodeInstr 0b11100101#8 0 0 = .pushH := by decide

theorem test_decode_pop_psw : decodeInstr 0b11110001#8 0 0 = .popPsw := by decide

theorem test_decode_out : decodeInstr 0b11010011#8 0x03#8 0 = .out 0x03#8 := by decide

theorem test_decode_ei : decodeInstr 0b11111011#8 0 0 = .ei := by decide

theorem test_decode_fatal_dd : decodeInstr 0b11011101#8 0 0 = .fatal 0xDD#8 := by decide

theorem test_decode_truncated : decode [0xC3#8, 0x00#8] = .error (.truncated 0xC3#8) := by rfl

theorem test_decode_leaves_the_rest : decode [0x3E#8, 0x05#8, 0x76#8] = .ok (.mviA 0x05#8, [0x76#8]) := by rfl

theorem test_table_word_three_bytes : decodeTableWord 24 0x2400CD = some (.call 0x2400#16) := by decide

theorem test_table_word_operands_zero : decodeTableWord 8 0xCD = some (.call 0x0000#16) := by decide

theorem test_fetch_word_runs_next : StepTo (State.reset.withFetchWord 16 0x053E) fun s =>
    { s with a := 0x05#8, pc := 0x0002#16 } := by decide

/-! ## The vectors of 95_test_vectors.md -/

theorem test_L1_2 : StepTo (load 0x0100 [0xB7#8] { State.reset with a := 0xFF#8 })
    fun s => { s with f := 0x86#8, pc := 0x0101#16 } := by decide

theorem test_L1_11 : StepTo (load 0x0100 [0xED#8] { State.reset with latch := ⟨true, 0xD7#8, 0x00#8, 0x00#8⟩, ie := true, halted := true, sp := 0x2400#16 })
    fun s => { s with sp := 0x23FE#16, pc := 0x0010#16, ie := false, halted := false, latch := ⟨false, 0xD7#8, 0x00#8, 0x00#8⟩, mem := (s.mem.write 0x23FE 0x00#8).write 0x23FF 0x01#8 } := by decide

theorem test_L1_13 : StepTo (load 0x0100 [0xED#8] { State.reset with a := 0x12#8 })
    fun s => { s with pc := 0x0100#16, running := false, stopInfo := .fatalOpcode 0x0100#16 0xED#8 } := by decide

theorem test_ALU_2 : StepTo (load 0x0100 [0x80#8] { State.reset with a := 0xFF#8, b := 0x01#8 })
    fun s => { s with a := 0x00#8, f := 0x57#8, pc := 0x0101#16 } := by decide

theorem test_ALU_5 : StepTo (load 0x0100 [0x88#8] { State.reset with a := 0x0E#8, b := 0x01#8, f := 0x03#8 })
    fun s => { s with a := 0x10#8, f := 0x12#8, pc := 0x0101#16 } := by decide

theorem test_ALU_7 : StepTo (load 0x0100 [0x86#8] { State.reset with a := 0x10#8, h := 0x20#8, l := 0x00#8, mem := [(0x2000, 0x25#8)] })
    fun s => { s with a := 0x35#8, f := 0x06#8, pc := 0x0101#16 } := by decide

theorem test_ALU_8 : StepTo (load 0x0100 [0x90#8] { State.reset with a := 0x10#8, b := 0x01#8 })
    fun s => { s with a := 0x0F#8, f := 0x16#8, pc := 0x0101#16 } := by decide

theorem test_ALU_9 : StepTo (load 0x0100 [0x90#8] { State.reset with a := 0x00#8, b := 0x01#8 })
    fun s => { s with a := 0xFF#8, f := 0x97#8, pc := 0x0101#16 } := by decide

theorem test_ALU_10 : StepTo (load 0x0100 [0x97#8] { State.reset with a := 0x3C#8 })
    fun s => { s with a := 0x00#8, f := 0x46#8, pc := 0x0101#16 } := by decide

theorem test_ALU_11 : StepTo (load 0x0100 [0x98#8] { State.reset with a := 0x05#8, b := 0x05#8, f := 0x03#8 })
    fun s => { s with a := 0xFF#8, f := 0x97#8, pc := 0x0101#16 } := by decide

theorem test_ALU_13 : StepTo (load 0x0100 [0xA0#8] { State.reset with a := 0x08#8, b := 0x00#8 })
    fun s => { s with a := 0x00#8, f := 0x56#8, pc := 0x0101#16 } := by decide

theorem test_ALU_15 : StepTo (load 0x0100 [0xE6#8, 0x08#8] { State.reset with a := 0x08#8 })
    fun s => { s with pc := 0x0102#16 } := by decide

theorem test_ALU_16 : StepTo (load 0x0100 [0xA8#8] { State.reset with a := 0x5A#8, b := 0xFF#8, f := 0x13#8 })
    fun s => { s with a := 0xA5#8, f := 0x86#8, pc := 0x0101#16 } := by decide

theorem test_ALU_17 : StepTo (load 0x0100 [0xAF#8] { State.reset with a := 0x77#8, f := 0x03#8 })
    fun s => { s with a := 0x00#8, f := 0x46#8, pc := 0x0101#16 } := by decide

theorem test_ALU_18 : StepTo (load 0x0100 [0xB0#8] { State.reset with a := 0x00#8, b := 0x00#8, f := 0x13#8 })
    fun s => { s with f := 0x46#8, pc := 0x0101#16 } := by decide

theorem test_ALU_20 : StepTo (load 0x0100 [0xB8#8] { State.reset with a := 0x20#8, b := 0x21#8 })
    fun s => { s with f := 0x97#8, pc := 0x0101#16 } := by decide

theorem test_ALU_22 : StepTo (load 0x0100 [0xC6#8, 0x01#8] { State.reset with a := 0xFF#8 })
    fun s => { s with a := 0x00#8, f := 0x57#8, pc := 0x0102#16 } := by decide

theorem test_ALU_23 : StepTo (load 0x0100 [0xCE#8, 0x00#8] { State.reset with a := 0xFF#8, f := 0x03#8 })
    fun s => { s with a := 0x00#8, f := 0x57#8, pc := 0x0102#16 } := by decide

theorem test_ALU_24 : StepTo (load 0x0100 [0xD6#8, 0x01#8] { State.reset with a := 0x00#8 })
    fun s => { s with a := 0xFF#8, f := 0x97#8, pc := 0x0102#16 } := by decide

theorem test_ALU_25 : StepTo (load 0x0100 [0xDE#8, 0x00#8] { State.reset with a := 0x00#8, f := 0x03#8 })
    fun s => { s with a := 0xFF#8, f := 0x97#8, pc := 0x0102#16 } := by decide

theorem test_ALU_26 : StepTo (load 0x0100 [0xEE#8, 0xFF#8] { State.reset with a := 0x0F#8 })
    fun s => { s with a := 0xF0#8, f := 0x86#8, pc := 0x0102#16 } := by decide

theorem test_ALU_27 : StepTo (load 0x0100 [0xF6#8, 0x80#8] { State.reset with a := 0x01#8 })
    fun s => { s with a := 0x81#8, f := 0x86#8, pc := 0x0102#16 } := by decide

theorem test_ALU_28 : StepTo (load 0x0100 [0xFE#8, 0x40#8] { State.reset with a := 0x40#8 })
    fun s => { s with f := 0x46#8, pc := 0x0102#16 } := by decide

theorem test_INC_1 : StepTo (load 0x0100 [0x3C#8] { State.reset with a := 0xFF#8, f := 0x03#8 })
    fun s => { s with a := 0x00#8, f := 0x57#8, pc := 0x0101#16 } := by decide

theorem test_INC_2 : StepTo (load 0x0100 [0x04#8] { State.reset with b := 0x0F#8 })
    fun s => { s with b := 0x10#8, f := 0x12#8, pc := 0x0101#16 } := by decide

theorem test_INC_3 : StepTo (load 0x0100 [0x05#8] { State.reset with b := 0x00#8 })
    fun s => { s with b := 0xFF#8, f := 0x96#8, pc := 0x0101#16 } := by decide

theorem test_INC_5 : StepTo (load 0x0100 [0x0D#8] { State.reset with c := 0x10#8 })
    fun s => { s with c := 0x0F#8, f := 0x16#8, pc := 0x0101#16 } := by decide

theorem test_INC_6 : StepTo (load 0x0100 [0x34#8] { State.reset with h := 0x20#8, l := 0x00#8, mem := [(0x2000, 0x7F#8)] })
    fun s => { s with f := 0x92#8, pc := 0x0101#16, mem := s.mem.write 0x2000 0x80#8 } := by decide

theorem test_INC_7 : StepTo (load 0x0100 [0x35#8] { State.reset with h := 0x20#8, l := 0x00#8, mem := [(0x2000, 0x01#8)] })
    fun s => { s with f := 0x46#8, pc := 0x0101#16, mem := s.mem.write 0x2000 0x00#8 } := by decide

theorem test_INC_8 : StepTo (load 0x0100 [0x23#8] { State.reset with h := 0xFF#8, l := 0xFF#8, f := 0x02#8 })
    fun s => { s with h := 0x00#8, l := 0x00#8, pc := 0x0101#16 } := by decide

theorem test_INC_9 : StepTo (load 0x0100 [0x3B#8] { State.reset with sp := 0x0000#16 })
    fun s => { s with sp := 0xFFFF#16, pc := 0x0101#16 } := by decide

theorem test_INC_10 : StepTo (load 0x0100 [0x0B#8] { State.reset with b := 0x01#8, c := 0x00#8 })
    fun s => { s with b := 0x00#8, c := 0xFF#8, pc := 0x0101#16 } := by decide

theorem test_INC_11 : StepTo (load 0x0100 [0x09#8] { State.reset with b := 0x00#8, c := 0x01#8, h := 0xFF#8, l := 0xFF#8 })
    fun s => { s with h := 0x00#8, l := 0x00#8, f := 0x03#8, pc := 0x0101#16 } := by decide

theorem test_INC_12 : StepTo (load 0x0100 [0x29#8] { State.reset with h := 0x81#8, l := 0x00#8, f := 0x42#8 })
    fun s => { s with h := 0x02#8, f := 0x43#8, pc := 0x0101#16 } := by decide

theorem test_INC_13 : StepTo (load 0x0100 [0x39#8] { State.reset with sp := 0x1234#16, h := 0x00#8, l := 0x01#8 })
    fun s => { s with h := 0x12#8, l := 0x35#8, pc := 0x0101#16 } := by decide

theorem test_DAA_1 : StepTo (load 0x0100 [0x27#8] { State.reset with a := 0x9B#8 })
    fun s => { s with a := 0x01#8, f := 0x03#8, pc := 0x0101#16 } := by decide

theorem test_DAA_5 : StepTo (load 0x0100 [0x27#8] { State.reset with a := 0x15#8, f := 0x03#8 })
    fun s => { s with a := 0x75#8, pc := 0x0101#16 } := by decide

theorem test_DAA_7 : StepTo (load 0x0100 [0x27#8] { State.reset with a := 0x9A#8 })
    fun s => { s with a := 0x00#8, f := 0x47#8, pc := 0x0101#16 } := by decide

theorem test_ROT_1 : StepTo (load 0x0100 [0x07#8] { State.reset with a := 0x80#8 })
    fun s => { s with a := 0x01#8, f := 0x03#8, pc := 0x0101#16 } := by decide

theorem test_ROT_3 : StepTo (load 0x0100 [0x0F#8] { State.reset with a := 0x01#8 })
    fun s => { s with a := 0x80#8, f := 0x03#8, pc := 0x0101#16 } := by decide

theorem test_ROT_4 : StepTo (load 0x0100 [0x17#8] { State.reset with a := 0x80#8 })
    fun s => { s with a := 0x00#8, f := 0x03#8, pc := 0x0101#16 } := by decide

theorem test_ROT_6 : StepTo (load 0x0100 [0x1F#8] { State.reset with a := 0x01#8, f := 0x03#8 })
    fun s => { s with a := 0x80#8, pc := 0x0101#16 } := by decide

theorem test_ROT_8 : StepTo (load 0x0100 [0x2F#8] { State.reset with a := 0x51#8, f := 0x03#8 })
    fun s => { s with a := 0xAE#8, pc := 0x0101#16 } := by decide

theorem test_ROT_9 : StepTo (load 0x0100 [0x37#8] State.reset)
    fun s => { s with f := 0x03#8, pc := 0x0101#16 } := by decide

theorem test_ROT_10 : StepTo (load 0x0100 [0x3F#8] { State.reset with f := 0x43#8 })
    fun s => { s with f := 0x42#8, pc := 0x0101#16 } := by decide

theorem test_MOV_1 : StepTo (load 0x0100 [0x78#8] { State.reset with b := 0x99#8 })
    fun s => { s with a := 0x99#8, pc := 0x0101#16 } := by decide

theorem test_MOV_2 : StepTo (load 0x0100 [0x7E#8] { State.reset with h := 0x20#8, l := 0x10#8, mem := [(0x2010, 0x5C#8)] })
    fun s => { s with a := 0x5C#8, pc := 0x0101#16 } := by decide

theorem test_MOV_3 : StepTo (load 0x0100 [0x77#8] { State.reset with a := 0xE1#8, h := 0x20#8, l := 0x10#8 })
    fun s => { s with pc := 0x0101#16, mem := s.mem.write 0x2010 0xE1#8 } := by decide

theorem test_MOV_5 : StepTo (load 0x0100 [0x3E#8, 0xC8#8] State.reset)
    fun s => { s with a := 0xC8#8, pc := 0x0102#16 } := by decide

theorem test_MOV_6 : StepTo (load 0x0100 [0x36#8, 0x3A#8] { State.reset with h := 0x20#8, l := 0x00#8 })
    fun s => { s with pc := 0x0102#16, mem := s.mem.write 0x2000 0x3A#8 } := by decide

theorem test_MOV_7 : StepTo (load 0x0100 [0x31#8, 0x00#8, 0x24#8] State.reset)
    fun s => { s with sp := 0x2400#16, pc := 0x0103#16 } := by decide

theorem test_MOV_8 : StepTo (load 0x0100 [0x21#8, 0x34#8, 0x12#8] State.reset)
    fun s => { s with h := 0x12#8, l := 0x34#8, pc := 0x0103#16 } := by decide

theorem test_MOV_9 : StepTo (load 0x0100 [0x3A#8, 0x50#8, 0x20#8] { State.reset with mem := [(0x2050, 0x42#8)] })
    fun s => { s with a := 0x42#8, pc := 0x0103#16 } := by decide

theorem test_MOV_10 : StepTo (load 0x0100 [0x32#8, 0x50#8, 0x20#8] { State.reset with a := 0x6B#8 })
    fun s => { s with pc := 0x0103#16, mem := s.mem.write 0x2050 0x6B#8 } := by decide

theorem test_MOV_11 : StepTo (load 0x0100 [0x2A#8, 0x00#8, 0x20#8] { State.reset with mem := [(0x2000, 0xCD#8), (0x2001, 0xAB#8)] })
    fun s => { s with h := 0xAB#8, l := 0xCD#8, pc := 0x0103#16 } := by decide

theorem test_MOV_12 : StepTo (load 0x0100 [0x2A#8, 0xFF#8, 0xFF#8] { State.reset with mem := [(0x0000, 0x22#8), (0xFFFF, 0x11#8)] })
    fun s => { s with h := 0x22#8, l := 0x11#8, pc := 0x0103#16 } := by decide

theorem test_MOV_13 : StepTo (load 0x0100 [0x22#8, 0x00#8, 0x20#8] { State.reset with h := 0xAB#8, l := 0xCD#8 })
    fun s => { s with pc := 0x0103#16, mem := (s.mem.write 0x2000 0xCD#8).write 0x2001 0xAB#8 } := by decide

theorem test_MOV_14 : StepTo (load 0x0100 [0x0A#8] { State.reset with b := 0x20#8, c := 0x05#8, mem := [(0x2005, 0x77#8)] })
    fun s => { s with a := 0x77#8, pc := 0x0101#16 } := by decide

theorem test_MOV_15 : StepTo (load 0x0100 [0x12#8] { State.reset with a := 0x3F#8, d := 0x20#8, e := 0x06#8 })
    fun s => { s with pc := 0x0101#16, mem := s.mem.write 0x2006 0x3F#8 } := by decide

theorem test_MOV_16 : StepTo (load 0x0100 [0xEB#8] { State.reset with d := 0x12#8, e := 0x34#8, h := 0x56#8, l := 0x78#8 })
    fun s => { s with d := 0x56#8, e := 0x78#8, h := 0x12#8, l := 0x34#8, pc := 0x0101#16 } := by decide

theorem test_BR_2 : StepTo (load 0x0100 [0xC2#8, 0x00#8, 0x02#8] { State.reset with f := 0x02#8 })
    fun s => { s with pc := 0x0200#16 } := by decide

theorem test_BR_3 : StepTo (load 0x0100 [0xC2#8, 0x00#8, 0x02#8] { State.reset with f := 0x42#8 })
    fun s => { s with pc := 0x0103#16 } := by decide

theorem test_BR_4 : StepTo (load 0x0100 [0xCA#8, 0x00#8, 0x02#8] { State.reset with f := 0x42#8 })
    fun s => { s with pc := 0x0200#16 } := by decide

theorem test_BR_5 : StepTo (load 0x0100 [0xD2#8, 0x00#8, 0x02#8] { State.reset with f := 0x03#8 })
    fun s => { s with pc := 0x0103#16 } := by decide

theorem test_BR_6 : StepTo (load 0x0100 [0xDA#8, 0x00#8, 0x02#8] { State.reset with f := 0x03#8 })
    fun s => { s with pc := 0x0200#16 } := by decide

theorem test_BR_7 : StepTo (load 0x0100 [0xE2#8, 0x00#8, 0x02#8] { State.reset with f := 0x02#8 })
    fun s => { s with pc := 0x0200#16 } := by decide

theorem test_BR_8 : StepTo (load 0x0100 [0xEA#8, 0x00#8, 0x02#8] { State.reset with f := 0x02#8 })
    fun s => { s with pc := 0x0103#16 } := by decide

theorem test_BR_9 : StepTo (load 0x0100 [0xF2#8, 0x00#8, 0x02#8] { State.reset with f := 0x82#8 })
    fun s => { s with pc := 0x0103#16 } := by decide

theorem test_BR_10 : StepTo (load 0x0100 [0xFA#8, 0x00#8, 0x02#8] { State.reset with f := 0x82#8 })
    fun s => { s with pc := 0x0200#16 } := by decide

theorem test_BR_11 : StepTo (load 0x0100 [0xCD#8, 0x00#8, 0x03#8] { State.reset with sp := 0x2400#16 })
    fun s => { s with sp := 0x23FE#16, pc := 0x0300#16, mem := (s.mem.write 0x23FE 0x03#8).write 0x23FF 0x01#8 } := by decide

theorem test_BR_12 : StepTo (load 0x0100 [0xDC#8, 0x00#8, 0x03#8] { State.reset with sp := 0x2400#16, f := 0x02#8 })
    fun s => { s with pc := 0x0103#16 } := by decide

theorem test_BR_13 : StepTo (load 0x0100 [0xC4#8, 0x00#8, 0x03#8] { State.reset with sp := 0x2400#16, f := 0x02#8 })
    fun s => { s with sp := 0x23FE#16, pc := 0x0300#16, mem := (s.mem.write 0x23FE 0x03#8).write 0x23FF 0x01#8 } := by decide

theorem test_BR_14 : StepTo (load 0x0100 [0xC9#8] { State.reset with sp := 0x23FE#16, mem := [(0x23FE, 0x03#8), (0x23FF, 0x01#8)] })
    fun s => { s with sp := 0x2400#16, pc := 0x0103#16 } := by decide

theorem test_BR_15 : StepTo (load 0x0100 [0xC9#8] { State.reset with sp := 0xFFFF#16, mem := [(0x0000, 0x12#8), (0xFFFF, 0x34#8)] })
    fun s => { s with sp := 0x0001#16, pc := 0x1234#16 } := by decide

theorem test_BR_16 : StepTo (load 0x0100 [0xC8#8] { State.reset with sp := 0x23FE#16, f := 0x02#8, mem := [(0x23FE, 0x03#8), (0x23FF, 0x01#8)] })
    fun s => { s with pc := 0x0101#16 } := by decide

theorem test_BR_17 : StepTo (load 0x0100 [0xF8#8] { State.reset with sp := 0x23FE#16, f := 0x82#8, mem := [(0x23FE, 0x03#8), (0x23FF, 0x01#8)] })
    fun s => { s with sp := 0x2400#16, pc := 0x0103#16 } := by decide

theorem test_BR_18 : StepTo (load 0x0200 [0xFF#8] { State.reset with sp := 0x2400#16 })
    fun s => { s with sp := 0x23FE#16, pc := 0x0038#16, mem := (s.mem.write 0x23FE 0x01#8).write 0x23FF 0x02#8 } := by decide

theorem test_BR_19 : StepTo (load 0x0200 [0xC7#8] { State.reset with sp := 0x2400#16 })
    fun s => { s with sp := 0x23FE#16, pc := 0x0000#16, mem := (s.mem.write 0x23FE 0x01#8).write 0x23FF 0x02#8 } := by decide

theorem test_BR_20 : StepTo (load 0x0100 [0xE9#8] { State.reset with h := 0x41#8, l := 0x3E#8 })
    fun s => { s with pc := 0x413E#16 } := by decide

theorem test_STK_1 : StepTo (load 0x0100 [0xC5#8] { State.reset with b := 0x8F#8, c := 0x9D#8, sp := 0x2400#16 })
    fun s => { s with sp := 0x23FE#16, pc := 0x0101#16, mem := (s.mem.write 0x23FE 0x9D#8).write 0x23FF 0x8F#8 } := by decide

theorem test_STK_2 : StepTo (load 0x0100 [0xD5#8] { State.reset with d := 0xAA#8, e := 0xBB#8, sp := 0x0000#16 })
    fun s => { s with sp := 0xFFFE#16, pc := 0x0101#16, mem := (s.mem.write 0xFFFE 0xBB#8).write 0xFFFF 0xAA#8 } := by decide

theorem test_STK_3 : StepTo (load 0x0100 [0xE5#8] { State.reset with h := 0xAA#8, l := 0xBB#8, sp := 0x0001#16 })
    fun s => { s with sp := 0xFFFF#16, pc := 0x0101#16, mem := (s.mem.write 0x0000 0xAA#8).write 0xFFFF 0xBB#8 } := by decide

theorem test_STK_4 : StepTo (load 0x0100 [0xF5#8] { State.reset with a := 0x1F#8, f := 0x47#8, sp := 0x2400#16 })
    fun s => { s with sp := 0x23FE#16, pc := 0x0101#16, mem := (s.mem.write 0x23FE 0x47#8).write 0x23FF 0x1F#8 } := by decide

theorem test_STK_5 : StepTo (load 0x0100 [0xC1#8] { State.reset with sp := 0x23FE#16, mem := [(0x23FE, 0x9D#8), (0x23FF, 0x8F#8)] })
    fun s => { s with b := 0x8F#8, c := 0x9D#8, sp := 0x2400#16, pc := 0x0101#16 } := by decide

theorem test_STK_6 : StepTo (load 0x0100 [0xF1#8] { State.reset with sp := 0x23FE#16, mem := [(0x23FE, 0xFF#8)] })
    fun s => { s with f := 0xD7#8, sp := 0x2400#16, pc := 0x0101#16 } := by decide

theorem test_STK_7 : StepTo (load 0x0100 [0xF1#8] { State.reset with sp := 0x23FE#16, mem := [(0x23FF, 0xC3#8)] })
    fun s => { s with a := 0xC3#8, sp := 0x2400#16, pc := 0x0101#16 } := by decide

theorem test_STK_9 : StepTo (load 0x0100 [0xE3#8] { State.reset with sp := 0x10AD#16, h := 0x0B#8, l := 0x3C#8, mem := [(0x10AD, 0xF0#8), (0x10AE, 0x0D#8)] })
    fun s => { s with h := 0x0D#8, l := 0xF0#8, pc := 0x0101#16, mem := (s.mem.write 0x10AD 0x3C#8).write 0x10AE 0x0B#8 } := by decide

theorem test_STK_10 : StepTo (load 0x0100 [0xF9#8] { State.reset with h := 0x50#8, l := 0x6C#8 })
    fun s => { s with sp := 0x506C#16, pc := 0x0101#16 } := by decide

theorem test_STK_12 : StepTo (load 0x0100 [0xD3#8, 0x03#8] { State.reset with a := 0x20#8 })
    fun s => { s with pc := 0x0102#16, outbox := [.portWrite 0x03#8 0x20#8] } := by decide

theorem test_STK_13 : StepTo (load 0x0100 [0xFB#8] State.reset)
    fun s => { s with pc := 0x0101#16, ie := true } := by decide

theorem test_STK_14 : StepTo (load 0x0100 [0xF3#8] { State.reset with ie := true })
    fun s => { s with pc := 0x0101#16, ie := false } := by decide

theorem test_STK_15 : StepTo (load 0x0005 [0x76#8] State.reset)
    fun s => { s with pc := 0x0006#16, halted := true } := by decide

theorem test_STK_16 : StepTo (load 0xFFFF [0x00#8] State.reset)
    fun s => { s with pc := 0x0000#16 } := by decide

theorem test_INT_1 : StepTo (load 0x0100 [0x00#8] { State.reset with latch := ⟨true, 0xCF#8, 0x00#8, 0x00#8⟩, ie := true, sp := 0x2400#16 })
    fun s => { s with sp := 0x23FE#16, pc := 0x0008#16, ie := false, latch := ⟨false, 0xCF#8, 0x00#8, 0x00#8⟩, mem := (s.mem.write 0x23FE 0x00#8).write 0x23FF 0x01#8 } := by decide

theorem test_INT_2 : StepTo (load 0x0100 [0x00#8] { State.reset with latch := ⟨true, 0xCF#8, 0x00#8, 0x00#8⟩, sp := 0x2400#16 })
    fun s => { s with pc := 0x0101#16, latch := ⟨false, 0xCF#8, 0x00#8, 0x00#8⟩, mem := (s.mem.write 0x23FE 0x00#8).write 0x23FF 0x00#8 } := by decide

theorem test_INT_3 : StepTo (load 0x0006 [0x00#8] { State.reset with latch := ⟨true, 0xCF#8, 0x00#8, 0x00#8⟩, ie := true, halted := true, sp := 0x2400#16 })
    fun s => { s with sp := 0x23FE#16, pc := 0x0008#16, ie := false, halted := false, latch := ⟨false, 0xCF#8, 0x00#8, 0x00#8⟩, mem := (s.mem.write 0x23FE 0x06#8).write 0x23FF 0x00#8 } := by decide

theorem test_INT_4 : StepTo (load 0x0100 [0x00#8] { State.reset with latch := ⟨true, 0xCF#8, 0x00#8, 0x00#8⟩, halted := true, sp := 0x2400#16 })
    fun s => { s with pc := 0x0100#16, latch := ⟨false, 0xCF#8, 0x00#8, 0x00#8⟩, mem := (s.mem.write 0x23FE 0x00#8).write 0x23FF 0x00#8 } := by decide

theorem test_INT_5 : StepTo (load 0x0100 [0x00#8] { State.reset with halted := true, ie := true })
    fun s => { s with pc := 0x0100#16 } := by decide

theorem test_INT_6 : StepTo (load 0x0100 [0x00#8] { State.reset with latch := ⟨true, 0xCD#8, 0x34#8, 0x12#8⟩, ie := true, sp := 0x2400#16 })
    fun s => { s with sp := 0x23FE#16, pc := 0x1234#16, ie := false, latch := ⟨false, 0xCD#8, 0x34#8, 0x12#8⟩, mem := (s.mem.write 0x23FE 0x00#8).write 0x23FF 0x01#8 } := by decide

theorem test_INT_7 : StepTo (load 0x0100 [0x00#8] { State.reset with latch := ⟨true, 0x3E#8, 0x99#8, 0x00#8⟩, ie := true })
    fun s => { s with a := 0x99#8, pc := 0x0100#16, ie := false, latch := ⟨false, 0x3E#8, 0x99#8, 0x00#8⟩ } := by decide

theorem test_INT_8 : StepTo (load 0x0100 [0x00#8] { State.reset with latch := ⟨true, 0xFB#8, 0x00#8, 0x00#8⟩, ie := true })
    fun s => { s with pc := 0x0100#16, latch := ⟨false, 0xFB#8, 0x00#8, 0x00#8⟩ } := by decide

theorem test_INT_9 : StepTo (load 0x0100 [0x00#8] { State.reset with latch := ⟨true, 0xED#8, 0x00#8, 0x00#8⟩, ie := true })
    fun s => { s with pc := 0x0100#16, ie := false, running := false, latch := ⟨false, 0xED#8, 0x00#8, 0x00#8⟩, stopInfo := .fatalOpcode 0x0100#16 0xED#8 } := by decide

theorem test_INT_11 : StepTo (load 0x0200 [0x08#8] State.reset)
    fun s => { s with pc := 0x0200#16, running := false, stopInfo := .fatalOpcode 0x0200#16 0x08#8 } := by decide

theorem test_MEM_1 : StepTo (load 0x0100 [0x32#8, 0x00#8, 0x10#8] { State.reset with a := 0x55#8, cfg := ⟨true, 0x2000#16, true, false⟩ })
    fun s => { s with pc := 0x0103#16, outbox := [.rejectedWrite 0x1000#16 0x55#8] } := by decide

theorem test_MEM_2 : StepTo (load 0x0100 [0x32#8, 0x00#8, 0x20#8] { State.reset with a := 0x55#8, cfg := ⟨true, 0x2000#16, true, false⟩ })
    fun s => { s with pc := 0x0103#16, mem := s.mem.write 0x2000 0x55#8 } := by decide

theorem test_MEM_3 : StepTo (load 0x0100 [0xC5#8] { State.reset with b := 0x12#8, c := 0x34#8, sp := 0x2001#16, cfg := ⟨true, 0x2000#16, true, false⟩ })
    fun s => { s with sp := 0x1FFF#16, pc := 0x0101#16, outbox := [.rejectedWrite 0x1FFF#16 0x34#8], mem := s.mem.write 0x2000 0x12#8 } := by decide

theorem test_MEM_4 : StepTo (load 0xFFFE [0x21#8, 0x34#8] { State.reset with mem := [(0x0000, 0x12#8)] })
    fun s => { s with h := 0x12#8, l := 0x34#8, pc := 0x0001#16 } := by decide

/-- STK-11: A takes whatever the host answers. -/
theorem test_STK_11 : step (load 0x0100 [0xDB#8, 0x01#8] State.reset) = .next
    { load 0x0100 [0xDB#8, 0x01#8] State.reset with
      a := Config.portAnswer 0 0x01#8, portDraws := 1, outbox := [.portRead 0x01#8], pc := 0x0102#16 } := by rfl

/-- INT-12: the second step of a stopped machine changes nothing. -/
theorem test_INT_12 : StepTo
    { load 0x0100 [0xED#8, 0x3C#8] State.reset with running := false, stopInfo := .fatalOpcode 0x0100#16 0xED#8 }
    fun s => s := by decide

/-! ## Each statement's hypotheses can be met -/

/-- A running machine with `RST 2` latched and IE set. -/
def pending : State := { State.reset with latch := ⟨true, 0xD7#8, 0x00#8, 0x00#8⟩, ie := true }

/-- A running, halted machine with IE clear and `RST 2` latched. -/
def dropped : State := { State.reset with latch := ⟨true, 0xD7#8, 0x00#8, 0x00#8⟩, halted := true }

/-- The write policy on, the limit 0x2000. -/
def guarded : State := { State.reset with cfg := ⟨true, 0x2000#16, true, false⟩ }

/-- A machine that a fatal opcode has stopped. -/
def stopped : State := { State.reset with running := false, stopInfo := .fatalOpcode 0x0000#16 0xED#8 }

theorem witness_DecodeInvertsEncode : (Instr.jmp 0xFFFF#16).wf = true ∧ (Instr.fatal 0xFD#8).wf = true := by decide

theorem witness_DecoderIsTotalAndUnique :
    Instr.movAB.wf = true ∧ encode .movAB <+: [0x78#8, 0x00#8, 0xFF#8] := by decide

theorem witness_StepFollowsItsBranches_stopped : stopped.running = false := by decide

theorem witness_StepFollowsItsBranches_service :
    pending.running = true ∧ pending.latch.latched = true ∧ pending.ie = true := by decide

theorem witness_StepFollowsItsBranches_idle :
    dropped.running = true ∧ ¬(dropped.latch.latched = true ∧ dropped.ie = true) ∧ dropped.halted = true := by decide

theorem witness_StepFollowsItsBranches_fetch :
    State.reset.running = true ∧ ¬(State.reset.latch.latched = true ∧ State.reset.ie = true) ∧
      State.reset.halted = false := by decide

theorem witness_StepRunsTheInstructionAtPc :
    let s := load 0xFFFF [0xC3#8] { State.reset with mem := [(0x0000, 0x34#8), (0x0001, 0x12#8)] }
    (Instr.jmp 0x1234#16).wf = true ∧ s.running = true ∧ s.halted = false ∧ ¬(s.latch.latched = true ∧ s.ie = true) ∧
      BytesAtPc s (.jmp 0x1234#16) := by decide

theorem witness_StepRunsTheInstructionAtPc_fatal :
    let s := load 0x0100 [0xED#8] State.reset
    (Instr.fatal 0xED#8).wf = true ∧ s.running = true ∧ s.halted = false ∧ ¬(s.latch.latched = true ∧ s.ie = true) ∧
      BytesAtPc s (.fatal 0xED#8) := by decide

theorem witness_StepEmptiesTheLatch : pending.running = true ∧ pending.latch.latched = true := by decide

theorem witness_DisabledInterruptIsDropped :
    dropped.running = true ∧ dropped.latch.latched = true ∧ dropped.ie = false := by decide

theorem witness_HaltedIsClearedOnlyByServicing : ∃ t, step { pending with halted := true } = .next t ∧
    { pending with halted := true }.halted = true ∧ t.halted = false := ⟨_, rfl, by decide⟩

theorem witness_ControlStateIsChangedOnlyByName : ∃ t, exec .movAB State.reset = .next t ∧
    Instr.movAB ≠ .ei ∧ Instr.movAB ≠ .di ∧ Instr.movAB ≠ .hlt ∧ ∀ op, Instr.movAB ≠ .fatal op :=
  ⟨_, rfl, by decide, by decide, by decide, fun _ h => nomatch h⟩

theorem witness_FatalOpcodeStopsTheMachine_fetched :
    let s := load 0xFFFF [0x08#8] State.reset
    0x08#8 ∈ fatalOpcodes ∧ s.running = true ∧ s.halted = false ∧ s.latch.latched = false ∧
      s.memRead s.pc = 0x08#8 := by decide

theorem witness_FatalOpcodeStopsTheMachine_latched :
    let s := { pending with latch := ⟨true, 0xFD#8, 0x00#8, 0x00#8⟩, halted := true }
    0xFD#8 ∈ fatalOpcodes ∧ s.running = true ∧ s.latch.latched = true ∧ s.ie = true ∧ s.latch.opcode = 0xFD#8 := by decide

theorem witness_OnlyAFatalDecodeStopsAStep : ∃ t, step (load 0x0100 [0xED#8] State.reset) = .next t ∧
    (load 0x0100 [0xED#8] State.reset).running = true ∧ t.running = false := ⟨_, rfl, by decide⟩

theorem witness_EndedRunsStayEnded_stopped : stopped.ended = true := by decide

theorem witness_EndedRunsStayEnded_halted : { State.reset with halted := true }.ended = true := by decide

theorem witness_LatchedRstEntersItsHandler :
    let s := { pending with latch := ⟨true, 0xFF#8, 0x00#8, 0x00#8⟩, sp := 0x0001#16 }
    s.running = true ∧ s.latch.latched = true ∧ s.ie = true ∧ s.latch.opcode = 0b11#2 ++ 7#3 ++ 0b111#3 := by decide

theorem witness_ExecutedInstructionCostsItsCycles_taken :
    0xCA#8 ∉ fatalOpcodes ∧ (0xCA#8).extractLsb' 6 2 = 3#2 ∧ (0xCA#8).extractLsb' 0 3 = 2#3 ∧
      condIndex .z = (0xCA#8).extractLsb' 3 3 ∧ condMeans .z 0x42#8 := ⟨by decide, by decide, by decide, by decide, rfl⟩

theorem witness_ExecutedInstructionCostsItsCycles_not_taken :
    0x00#8 ∉ fatalOpcodes ∧ (0x00#8).extractLsb' 6 2 ≠ 3#2 := by decide

/-- A state with the invariant that no run from reset need reach. -/
theorem witness_StepKeepsTheInvariant : ∃ t, step pending = .next t ∧ pending.Inv :=
  ⟨_, rfl, ⟨rfl, rfl, rfl⟩, Memory.wf_nil, by decide⟩

theorem witness_HostActionsKeepTheInvariant : stopped.Inv := ⟨⟨rfl, rfl, rfl⟩, Memory.wf_nil, by decide⟩

theorem witness_BulkLoadWritesItsBytes_last : 0 < [0x76#8, 0x77#8].length ∧ 65535 + 0 < 65536 ∧ ¬65535 + 1 < 65536 := by decide

theorem witness_BulkLoadWritesItsBytes_outside :
    (0x00FF#16).toNat < 0x0100 ∧ 0x0100 + [0x76#8].length ≤ (0x0101#16).toNat := by decide

theorem witness_WritePolicyJudgesEachByte_below :
    guarded.cfg.writeProtectEnabled = true ∧ (0x1FFF#16).toNat < guarded.cfg.writeProtectLimit.toNat := by decide

theorem witness_WritePolicyJudgesEachByte_at_the_limit :
    guarded.cfg.writeProtectEnabled = true ∧ guarded.cfg.writeProtectLimit.toNat ≤ (0x2000#16).toNat := by decide

theorem witness_WritePolicyJudgesEachByte_off : State.reset.cfg.writeProtectEnabled = false := by decide

theorem witness_MovIntoRegister : Reg8.h ≠ .m ∧ Reg8.a ≠ .m := by decide

theorem witness_MviIntoRegister : Reg8.l ≠ .m := by decide

theorem witness_MovAndMviToMemory : Reg8.h ≠ .m := by decide

theorem witness_InrAndDcrCount : Reg8.a ≠ .m ∧ Reg8.m = .m := by decide

/-- DAA's four cases: both adjustments, the first alone, the second alone, neither. -/
theorem witness_DaaAdjustsTwice :
    (0x9B % 16 > 9 ∧ (0x9B + 6) / 16 > 9) ∧ (0x0A % 16 > 9 ∧ ¬(0x0A + 6) / 16 > 9) ∧
    (¬0xA0 % 16 > 9 ∧ 0xA0 / 16 > 9) ∧ (¬0x12 % 16 > 9 ∧ ¬0x12 / 16 > 9) := by decide

theorem witness_DaaCorrectsDecimalAddition :
    9 ≤ 9 ∧ { State.reset with a := 0x99#8 }.a = BitVec.ofNat 8 (16 * 9 + 9) := by decide

theorem witness_ConditionalTransfersTestTheirFlag_holds : condMeans .c 0x03#8 := rfl

theorem witness_ConditionalTransfersTestTheirFlag_fails : ¬condMeans .c 0x02#8 := by
  intro h
  exact absurd (show flagCY 0x02#8 = true from h) (by decide)

theorem witness_PushThenPopGivesTheValueBack :
    { State.reset with sp := 0x0001#16 }.cfg.writeProtectEnabled = false ∧ flagsOk State.reset.f :=
  ⟨by decide, rfl, rfl, rfl⟩

end Sys2Proof.Tests
end

/-! PROOFS. What an instruction and a step can do, each said once, and from that the statements about the state: its invariant, its
control part, its values at creation and its accessors (10_state.md). -/

namespace Sys2Proof.Machine

/-! ## What an instruction can do -/

/-- The effects on registers, flags, `pc`, SP, memory and ports: the operations over State that the instructions share, for any
operands. None of them touches the control state (`DataEffect.sameControl`). -/
inductive DataEffect (s : State) : State → Prop
  | same : DataEffect s s
  | setReg8 (r : Reg8) (v : Byte) : DataEffect s (s.setReg8 r v)
  | setPair (rp : Pair) (k : PairCtx) (v : Word) : DataEffect s (s.setPair rp k v)
  | memWrite (x : Word) (v : Byte) : DataEffect s (s.memWrite x v)
  | memWrite16 (x v : Word) : DataEffect s (s.memWrite16 x v)
  | loadHl (a16 : Word) : DataEffect s (s.loadHl a16)
  | exchange : DataEffect s s.exchange
  | aluWith (op : AluOp) (x : Byte) (trackAc : Bool) : DataEffect s (s.aluWith op x trackAc)
  | increment (r : Reg8) : DataEffect s (s.increment r)
  | decrement (r : Reg8) : DataEffect s (s.decrement r)
  | addPairToHl (rp : Pair) : DataEffect s (s.addPairToHl rp)
  | decimalAdjust : DataEffect s s.decimalAdjust
  | setACarry (v : Byte) (cy : Bool) : DataEffect s (s.setACarry v cy)
  | writeCarry (cy : Bool) : DataEffect s (s.setF (withCY s.f cy))
  | setPc (v : Word) : DataEffect s (s.setPc v)
  | jumpIf (k : Cond) (a16 : Word) : DataEffect s (s.jumpIf k a16)
  | call (a16 : Word) : DataEffect s (s.call a16)
  | callIf (k : Cond) (a16 : Word) : DataEffect s (s.callIf k a16)
  | ret : DataEffect s s.ret
  | retIf (k : Cond) : DataEffect s (s.retIf k)
  | push16 (v : Word) : DataEffect s (s.push16 v)
  | popPair (rp : Pair) : DataEffect s (s.popPair rp)
  | exchangeTop : DataEffect s s.exchangeTop
  | portIn (port : Byte) : DataEffect s (s.portIn port)
  | portOut (port : Byte) : DataEffect s (s.portOut port)

/-- The effect of an instruction: a stop, a change of IE or of `halted` by the instruction that is named for it, or a data effect. -/
inductive ExecEffect : Instr → State → State → Prop
  | fatal {s : State} (op : Byte) : ExecEffect (.fatal op) s (s.fatalStop op)
  | ei {s : State} : ExecEffect .ei s s.enableInterrupts
  | di {s : State} : ExecEffect .di s s.disableInterrupts
  | hlt {s : State} : ExecEffect .hlt s s.halt
  | data {i : Instr} {s t : State} (h : DataEffect s t) : ExecEffect i s t

/-- Every instruction answers a next state by one of these effects. -/
theorem exists_execEffect (i : Instr) (s : State) : ∃ t, exec i s = .next t ∧ ExecEffect i s t := by
  cases i with
  | fatal op => exact ⟨_, rfl, .fatal op⟩
  | ei => exact ⟨_, rfl, .ei⟩
  | di => exact ⟨_, rfl, .di⟩
  | hlt => exact ⟨_, rfl, .hlt⟩
  | nop => exact ⟨_, rfl, .data .same⟩
  | movBB | movBC | movBD | movBE | movBH | movBL | movBM | movBA | movCB | movCC | movCD | movCE | movCH
  | movCL | movCM | movCA | movDB | movDC | movDD | movDE | movDH | movDL | movDM | movDA | movEB | movEC
  | movED | movEE | movEH | movEL | movEM | movEA | movHB | movHC | movHD | movHE | movHH | movHL | movHM
  | movHA | movLB | movLC | movLD | movLE | movLH | movLL | movLM | movLA | movMB | movMC | movMD | movME
  | movMH | movML | movMA | movAB | movAC | movAD | movAE | movAH | movAL | movAM | movAA | mviB | mviC
  | mviD | mviE | mviH | mviL | mviM | mviA => exact ⟨_, rfl, .data (.setReg8 _ _)⟩
  | lda | ldaxB | ldaxD | cma => exact ⟨_, rfl, .data (.setReg8 .a _)⟩
  | lxiB | lxiD | lxiH | lxiSp | inxB | inxD | inxH | inxSp | dcxB | dcxD | dcxH
  | dcxSp => exact ⟨_, rfl, .data (.setPair _ _ _)⟩
  | sphl => exact ⟨_, rfl, .data (.setPair .fourth .sp _)⟩
  | sta | staxB | staxD => exact ⟨_, rfl, .data (.memWrite _ _)⟩
  | shld => exact ⟨_, rfl, .data (.memWrite16 _ _)⟩
  | lhld => exact ⟨_, rfl, .data (.loadHl _)⟩
  | xchg => exact ⟨_, rfl, .data .exchange⟩
  | addB | addC | addD | addE | addH | addL | addM | addA | adcB | adcC | adcD | adcE | adcH | adcL | adcM
  | adcA | subB | subC | subD | subE | subH | subL | subM | subA | sbbB | sbbC | sbbD | sbbE | sbbH | sbbL
  | sbbM | sbbA | anaB | anaC | anaD | anaE | anaH | anaL | anaM | anaA | xraB | xraC | xraD | xraE | xraH
  | xraL | xraM | xraA | oraB | oraC | oraD | oraE | oraH | oraL | oraM | oraA | cmpB | cmpC | cmpD | cmpE
  | cmpH | cmpL | cmpM | cmpA | adi | aci | sui | sbi | ani | xri | ori | cpi => exact ⟨_, rfl, .data (.aluWith _ _ _)⟩
  | inrB | inrC | inrD | inrE | inrH | inrL | inrM | inrA => exact ⟨_, rfl, .data (.increment _)⟩
  | dcrB | dcrC | dcrD | dcrE | dcrH | dcrL | dcrM | dcrA => exact ⟨_, rfl, .data (.decrement _)⟩
  | dadB | dadD | dadH | dadSp => exact ⟨_, rfl, .data (.addPairToHl _)⟩
  | daa => exact ⟨_, rfl, .data .decimalAdjust⟩
  | rlc | rrc | ral | rar => exact ⟨_, rfl, .data (.setACarry _ _)⟩
  | stc | cmc => exact ⟨_, rfl, .data (.writeCarry _)⟩
  | jmp | pchl => exact ⟨_, rfl, .data (.setPc _)⟩
  | jnz | jz | jnc | jc | jpo | jpe | jp | jm => exact ⟨_, rfl, .data (.jumpIf _ _)⟩
  | call | rst0 | rst1 | rst2 | rst3 | rst4 | rst5 | rst6 | rst7 => exact ⟨_, rfl, .data (.call _)⟩
  | cnz | cz | cnc | cc | cpo | cpe | cp | cm => exact ⟨_, rfl, .data (.callIf _ _)⟩
  | ret => exact ⟨_, rfl, .data .ret⟩
  | rnz | rz | rnc | rc | rpo | rpe | rp | rm => exact ⟨_, rfl, .data (.retIf _)⟩
  | pushB | pushD | pushH | pushPsw => exact ⟨_, rfl, .data (.push16 _)⟩
  | popB | popD | popH | popPsw => exact ⟨_, rfl, .data (.popPair _)⟩
  | xthl => exact ⟨_, rfl, .data .exchangeTop⟩
  | inp => exact ⟨_, rfl, .data (.portIn _)⟩
  | out => exact ⟨_, rfl, .data (.portOut _)⟩

/-- The next state an instruction answers comes of one of these effects. -/
theorem execEffect_of_exec {i : Instr} {s t : State} (h : exec i s = .next t) : ExecEffect i s t := by
  obtain ⟨u, hu, he⟩ := exists_execEffect i s
  cases hu.symm.trans h
  exact he

/-- A data effect leaves the control state and the configuration alone. -/
theorem DataEffect.sameControl {s t : State} (h : DataEffect s t) : SameControl s t := by
  cases h with
  | setReg8 r v => exact sameControl_setReg8 s r v
  | setPair rp k v => exact sameControl_setPair s rp k v
  | memWrite x v => exact sameControl_memWrite s x v
  | memWrite16 x v => exact sameControl_memWrite16 s x v
  | increment r => exact sameControl_increment s r
  | decrement r => exact sameControl_decrement s r
  | addPairToHl rp => exact sameControl_addPairToHl s rp
  | jumpIf k a16 => exact sameControl_jumpIf s k a16
  | call a16 => exact sameControl_call s a16
  | callIf k a16 => exact sameControl_callIf s k a16
  | ret => exact sameControl_ret s
  | retIf k => exact sameControl_retIf s k
  | push16 v => exact sameControl_push16 s v
  | popPair rp => exact sameControl_popPair s rp
  | exchangeTop => exact sameControl_exchangeTop s
  | same | loadHl | exchange | aluWith | decimalAdjust | setACarry | writeCarry | setPc | portIn | portOut =>
    exact ⟨rfl, rfl, rfl, rfl, rfl, rfl⟩

/-- A data effect keeps the invariant of the state. -/
theorem DataEffect.inv {s t : State} (h : DataEffect s t) (hs : s.Inv) : t.Inv := by
  cases h with
  | setReg8 r v => exact hs.setReg8 r v
  | setPair rp k v => exact hs.setPair rp k v
  | memWrite x v => exact hs.memWrite x v
  | memWrite16 x v => exact hs.memWrite16 x v
  | aluWith op x trackAc => exact hs.aluWith op x trackAc
  | increment r => exact hs.increment r
  | decrement r => exact hs.decrement r
  | addPairToHl rp => exact hs.addPairToHl rp
  | decimalAdjust => exact hs.decimalAdjust
  | setACarry v cy => exact hs.setACarry v cy
  | writeCarry cy => exact hs.setF (flagsOk_withCY cy hs.flags)
  | jumpIf k a16 => exact hs.jumpIf k a16
  | call a16 => exact hs.call a16
  | callIf k a16 => exact hs.callIf k a16
  | ret => exact hs.ret
  | retIf k => exact hs.retIf k
  | push16 v => exact hs.push16 v
  | popPair rp => exact hs.popPair rp
  | exchangeTop => exact hs.exchangeTop
  | same | loadHl | exchange | setPc | portIn | portOut => exact hs.of rfl rfl rfl rfl

/-- Every instruction keeps the invariant of the state. -/
theorem ExecEffect.inv {i : Instr} {s t : State} (h : ExecEffect i s t) (hs : s.Inv) : t.Inv := by
  cases h with
  | fatal op => exact hs.fatalStop op
  | ei | di | hlt => exact hs.of rfl rfl rfl rfl
  | data h => exact h.inv hs

/-- An instruction that leaves a running machine stopped is a fatal opcode. -/
theorem ExecEffect.fatal_of_stops {i : Instr} {s t : State} (h : ExecEffect i s t) (hs : s.running = true)
    (ht : t.running = false) : ∃ op, i = .fatal op ∧ t = s.fatalStop op := by
  cases h with
  | fatal op => exact ⟨op, rfl, rfl⟩
  | ei | di | hlt => exact nomatch hs.symm.trans ht
  | data h =>
    obtain ⟨_, _, hrun, _⟩ := h.sameControl
    exact nomatch hs.symm.trans (hrun.symm.trans ht)

/-! ## What a step can do -/

/-- The four cases of a step, each with what holds in it and the state it answers (60_exceptions.md R310). -/
inductive StepEffect (s : State) : State → Prop
  | stopped (hr : s.running = false) : StepEffect s s
  | service {u : State} (hr : s.running = true) (hl : s.latch.latched = true) (hi : s.ie = true)
      (he : ExecEffect (decodeInstr s.latch.opcode s.latch.data1 s.latch.data2) s.enterInterrupt u) :
      StepEffect s (u.endStep s.latch.latched)
  | idle (hr : s.running = true) (hn : ¬(s.latch.latched = true ∧ s.ie = true)) (hh : s.halted = true) :
      StepEffect s (s.endStep s.latch.latched)
  | fetch {i : Instr} {u : State} (hr : s.running = true) (hn : ¬(s.latch.latched = true ∧ s.ie = true))
      (hh : s.halted = false) (hi : i = decodeInstr (s.memRead s.pc) (s.memRead (s.pc + 1)) (s.memRead (s.pc + 2)))
      (he : ExecEffect i (s.advance i) u) : StepEffect s (u.endStep s.latch.latched)

/-- The next state a step answers comes of one of the four cases. -/
theorem stepEffect_of_step {s t : State} (h : step s = .next t) : StepEffect s t := by
  rcases s.stepCase_cases with ⟨hr, hc⟩ | ⟨hr, hl, hi, hc⟩ | ⟨hr, hn, hh, hc⟩ | ⟨hr, hn, hh, hc⟩
  · cases (step_stopped hc).symm.trans h
    exact .stopped hr
  · obtain ⟨u, hu, he⟩ := exists_execEffect (decodeInstr s.latch.opcode s.latch.data1 s.latch.data2) s.enterInterrupt
    rw [step_service hc, hu, thenDo_next] at h
    cases h
    exact .service hr hl hi he
  · cases (step_idle hc).symm.trans h
    exact .idle hr hn hh
  · obtain ⟨u, hu, he⟩ := exists_execEffect
      (decodeInstr (s.memRead s.pc) (s.memRead (s.pc + 1)) (s.memRead (s.pc + 2))) (s.advance _)
    rw [step_fetch hc, hu, thenDo_next] at h
    cases h
    exact .fetch hr hn hh rfl he

/-! ## The invariant -/

/-- Settles O18: each of the four cases of a step keeps the invariant. -/
theorem stepKeepsTheInvariant : Obligations.StepKeepsTheInvariant := by
  intro s t hs h
  cases stepEffect_of_step h with
  | stopped => exact hs
  | idle => exact hs.endStep _
  | service _ _ _ he => exact (he.inv (hs.of rfl rfl rfl rfl)).endStep _
  | fetch _ _ _ _ he => exact (he.inv (hs.of rfl rfl rfl rfl)).endStep _

/-- Settles O19. -/
theorem resetMeetsTheInvariant : Obligations.ResetMeetsTheInvariant :=
  ⟨⟨rfl, rfl, rfl⟩, Memory.wf_nil, by decide⟩

/-! ## The control state -/

/-- Settles O12: a data effect leaves all of the control state alone, and the other effects are those of the instructions named. -/
theorem controlStateIsChangedOnlyByName : Obligations.ControlStateIsChangedOnlyByName := by
  intro i s t h
  cases execEffect_of_exec h with
  | fatal op => exact ⟨fun _ _ => rfl, fun _ => rfl, fun hf => absurd rfl (hf op), rfl, rfl⟩
  | ei => exact ⟨fun hei _ => absurd rfl hei, fun _ => rfl, fun _ => ⟨rfl, rfl⟩, rfl, rfl⟩
  | di => exact ⟨fun _ hdi => absurd rfl hdi, fun _ => rfl, fun _ => ⟨rfl, rfl⟩, rfl, rfl⟩
  | hlt => exact ⟨fun _ _ => rfl, fun hhlt => absurd rfl hhlt, fun _ => ⟨rfl, rfl⟩, rfl, rfl⟩
  | data hd =>
    obtain ⟨hie, hhalted, hrun, hstop, hlatch, hcfg⟩ := hd.sameControl
    exact ⟨fun _ _ => hie, fun _ => hhalted, fun _ => ⟨hrun, hstop⟩, hlatch, hcfg⟩

/-- What the decoder answers is well formed: a fatal decode carries one of the 12 bytes (30_encoding.md R104). -/
theorem wf_decodeInstr (op b2 b3 : Byte) : (decodeInstr op b2 b3).wf = true := by
  obtain ⟨n, hn, rfl⟩ := exists_byte op
  interval_cases n <;> rfl

theorem mem_fatalOpcodes_of_decodeInstr {op b1 b2 b3 : Byte} (h : decodeInstr b1 b2 b3 = .fatal op) :
    op ∈ fatalOpcodes := by
  have hwf := wf_decodeInstr b1 b2 b3
  rw [h] at hwf
  exact List.contains_iff_mem.mp hwf

/-- A fatal opcode is not advanced past (40_dispatch.md R132, R135). -/
theorem State.advance_fatal (s : State) (op : Byte) : s.advance (.fatal op) = s := by
  simp [State.advance, State.setPc, Instr.pcAdvance]

@[simp] theorem State.endStep_running (s : State) (w : Bool) : (s.endStep w).running = s.running := by
  cases w <;> rfl

/-- A stop at the end of its step: `running`, the stop record and the latch differ, nothing else. -/
theorem State.endStep_fatalStop (s : State) (op : Byte) (w : Bool) :
    let t := (s.fatalStop op).endStep w
    t = { s with running := false, stopInfo := .fatalOpcode s.pc op, latch := t.latch, ie := t.ie, halted := t.halted } := by
  cases w <;> rfl

/-- Settles O14: of the four cases only a fatal instruction, serviced or fetched, turns `running` off. -/
theorem onlyAFatalDecodeStopsAStep : Obligations.OnlyAFatalDecodeStopsAStep := by
  intro s t h hs ht
  cases stepEffect_of_step h with
  | stopped hr => exact nomatch hs.symm.trans hr
  | idle =>
    rw [State.endStep_running] at ht
    exact nomatch hs.symm.trans ht
  | service _ _ _ he =>
    rw [State.endStep_running] at ht
    obtain ⟨op, hop, rfl⟩ := he.fatal_of_stops hs ht
    exact ⟨op, mem_fatalOpcodes_of_decodeInstr hop, State.endStep_fatalStop _ op _⟩
  | fetch _ _ _ hi he =>
    rw [State.endStep_running] at ht
    obtain ⟨op, rfl, rfl⟩ := he.fatal_of_stops hs ht
    rw [State.advance_fatal]
    exact ⟨op, mem_fatalOpcodes_of_decodeInstr hi.symm, State.endStep_fatalStop s op _⟩

/-! ## The values at creation -/

/-- Every byte of memory at creation is 0x00 (R55). -/
theorem State.memRead_reset (x : Word) : State.reset.memRead x = 0x00#8 := rfl

/-- Settles O21: every byte of memory by `State.memRead_reset`, every other value a field of the state at creation. -/
theorem resetValues : Obligations.ResetValues :=
  ⟨rfl, rfl, rfl, rfl, rfl, rfl, rfl, rfl, rfl, rfl, State.memRead_reset, rfl, rfl, rfl, rfl, rfl, rfl, rfl, rfl, rfl, rfl, rfl⟩

/-! ## The operand accessors -/

/-- Forcing the reserved bits of the low byte of a word, in the word. -/
theorem wordOf_forceReserved (v : Word) :
    wordOf (hiByte v) (forceReserved (loByte v)) = (v &&& 0xFFD7#16) ||| 0x0002#16 := by
  have hand : v &&& 0xFFD7#16 = wordOf (hiByte v &&& 0xFF#8) (loByte v &&& 0xD7#8) := by
    conv_lhs => rw [← wordOf_hiByte_loByte v]
    exact BitVec.and_append (x₂ := 0xFF#8) (y₂ := 0xD7#8)
  have hor : ∀ h l : Byte, wordOf h l ||| 0x0002#16 = wordOf (h ||| 0x00#8) (l ||| 0x02#8) := fun _ _ =>
    BitVec.or_append (x₂ := 0x00#8) (y₂ := 0x02#8)
  rw [hand, hor, show (0xFF#8 : Byte) = BitVec.allOnes 8 from rfl, BitVec.and_allOnes, BitVec.or_zero]
  rfl

/-- A pair written reads back, but for the reserved bits of F (R35, D4). -/
theorem State.pair_setPair (rp : Pair) (k : PairCtx) (v : Word) (s : State) :
    (s.setPair rp k v).pair rp k =
      if rp = .fourth ∧ k = .psw then (v &&& 0xFFD7#16) ||| 0x0002#16 else v := by
  cases rp with
  | bc | de | hl => exact wordOf_hiByte_loByte v
  | fourth =>
    cases k with
    | sp => rfl
    | psw => exact wordOf_forceReserved v

/-- Settles O25: each read is its row of the table, and a pair reads back by `State.pair_setPair`. -/
theorem operandAccessorsFollowTheTables : Obligations.OperandAccessorsFollowTheTables := fun s =>
  ⟨rfl, rfl, rfl, rfl, rfl, rfl, rfl, rfl, fun _ => ⟨rfl, rfl, rfl⟩, rfl, rfl, flagS_eq _, flagZ_eq _, flagAC_eq _,
    flagP_eq _, flagCY_eq _, fun rp k v => s.pair_setPair rp k v⟩

end Sys2Proof.Machine

/-! PROOFS. The statements about memory and the stack (20_memory.md): the host's bulk load, the byte write under the policy, and the
pushes and pops of the pairs. -/

namespace Sys2Proof.Machine

/-! ## The bulk load (R80) -/

/-- A bulk load changes no byte past its last one. -/
theorem Memory.read_bulkWrite_above (m : Memory) {x y : Nat} (bytes : List Byte) (h : x + bytes.length ≤ y) :
    (m.bulkWrite x bytes).read y = m.read y := by
  induction bytes generalizing m x with
  | nil => rfl
  | cons v vs ih =>
    rw [List.length_cons] at h
    rw [Memory.bulkWrite, ih _ (by omega)]
    split
    · exact Memory.read_write_other m v (by omega)
    · rfl

/-- A byte loaded below 65536 reads back: the rest of the load is above it. -/
theorem Memory.read_bulkWrite_getElem (m : Memory) {x k : Nat} (bytes : List Byte) (hk : k < bytes.length)
    (hx : x + k < 65536) : (m.bulkWrite x bytes).read (x + k) = bytes[k] := by
  induction bytes generalizing m x k with
  | nil => exact absurd hk (Nat.not_lt_zero k)
  | cons v vs ih =>
    cases k with
    | zero =>
      rw [Memory.bulkWrite, if_pos (by omega), Memory.read_bulkWrite_below _ vs (by omega)]
      exact Memory.read_write_same m x v
    | succ k =>
      have := ih (if x < 65536 then m.write x v else m) (x := x + 1) (k := k) (Nat.lt_of_succ_lt_succ hk) (by omega)
      rwa [show x + 1 + k = x + (k + 1) by omega] at this

/-- Settles O23: a byte of the load reads back, and the load reaches no byte below its offset or past its end. -/
theorem bulkLoadWritesItsBytes : Obligations.BulkLoadWritesItsBytes := by
  intro s off bytes
  refine ⟨fun k hk hlt => ?_, fun x hx => ?_, rfl⟩
  · rw [State.memRead, BitVec.toNat_ofNat, Nat.mod_eq_of_lt hlt]
    exact s.mem.read_bulkWrite_getElem bytes hk hlt
  · rcases hx with hbelow | habove
    · exact s.mem.read_bulkWrite_below bytes hbelow
    · exact s.mem.read_bulkWrite_above bytes habove

/-! ## The write policy (R77, R79) -/

/-- The policy rejects exactly the addresses below the limit, while it is on (D21). -/
theorem State.isProtected_iff (s : State) (x : Word) :
    s.isProtected x = true ↔ s.cfg.writeProtectEnabled = true ∧ x.toNat < s.cfg.writeProtectLimit.toNat := by
  simp [State.isProtected]

/-- The policy lets pass every write while it is off, and those at the limit or above (D21). -/
theorem State.isProtected_eq_false_iff (s : State) (x : Word) :
    s.isProtected x = false ↔ s.cfg.writeProtectEnabled = false ∨ s.cfg.writeProtectLimit.toNat ≤ x.toNat := by
  rw [State.isProtected, Bool.and_eq_false_iff, decide_eq_false_iff_not, Nat.not_lt]

/-- Settles O24: a rejected write is its report alone, an accepted one is its byte alone. -/
theorem writePolicyJudgesEachByte : Obligations.WritePolicyJudgesEachByte := by
  intro s x v
  refine ⟨fun hon hlt => State.memWrite_of_protected v ((s.isProtected_iff x).mpr ⟨hon, hlt⟩), fun hoff => ?_⟩
  have hp : s.isProtected x = false := (s.isProtected_eq_false_iff x).mpr hoff
  refine ⟨?_, fun y hy => s.memRead_memWrite_other v hy, ?_⟩
  · rw [State.memRead_memWrite_same, hp]
    rfl
  · rw [State.memWrite_of_not_protected v hp]
    rfl

/-! ## Pushes of a pair (R84, R260, R261) -/

theorem exec_push (rp : Pair) (s : State) : exec (Asm.push rp) s = .next (s.pushPair rp) := by
  cases rp <;> rfl

/-- The encoding of a push: `11rp0101` (R107 group 8). -/
theorem encode_push (rp : Pair) : encode (Asm.push rp) = [0b11#2 ++ pairIndex rp ++ 0b0101#4] := by
  cases rp <;> rfl

/-- A push of two bytes joined to a word stores each of them. -/
theorem storedBytes_push16_wordOf (s : State) (h l : Byte) :
    StoredBytes [(s.sp - 1, h), (s.sp - 2, l)] s (s.push16 (wordOf h l)) := by
  obtain ⟨_, hstored, _⟩ := s.push16_spec (wordOf h l)
  rwa [hiByte_wordOf, loByte_wordOf] at hstored

/-- Settles O49: the pair pushed is its two registers joined, PSW being A and F (D2). -/
theorem pushStoresThePair : Obligations.PushStoresThePair := by
  intro s rp
  obtain ⟨hsp, _, hframe⟩ := s.push16_spec (s.pair rp .psw)
  refine ⟨encode_push rp, s.pushPair rp, exec_push rp s, hsp, ?_, hframe⟩
  cases rp with
  | bc => exact storedBytes_push16_wordOf s s.b s.c
  | de => exact storedBytes_push16_wordOf s s.d s.e
  | hl => exact storedBytes_push16_wordOf s s.h s.l
  | fourth => exact storedBytes_push16_wordOf s s.a s.f

/-! ## Pops of a pair (R85, R262) -/

/-- The high byte of the word a pop returns is the one above SP. -/
@[simp] theorem State.hiByte_top16 (s : State) : hiByte s.top16 = s.memRead (s.sp + 1) := hiByte_wordOf _ _

/-- The low byte of the word a pop returns is the one at SP. -/
@[simp] theorem State.loByte_top16 (s : State) : loByte s.top16 = s.memRead s.sp := loByte_wordOf _ _

theorem exec_pop (rp : Pair) (s : State) : exec (Asm.pop rp) s = .next (s.popPair rp) := by
  cases rp <;> rfl

theorem State.popPair_bc (s : State) :
    s.popPair .bc = { s with b := s.memRead (s.sp + 1), c := s.memRead s.sp, sp := s.sp + 2 } := by
  rw [← s.hiByte_top16, ← s.loByte_top16]
  rfl

theorem State.popPair_de (s : State) :
    s.popPair .de = { s with d := s.memRead (s.sp + 1), e := s.memRead s.sp, sp := s.sp + 2 } := by
  rw [← s.hiByte_top16, ← s.loByte_top16]
  rfl

theorem State.popPair_hl (s : State) :
    s.popPair .hl = { s with h := s.memRead (s.sp + 1), l := s.memRead s.sp, sp := s.sp + 2 } := by
  rw [← s.hiByte_top16, ← s.loByte_top16]
  rfl

/-- Settles O50: a pop runs `State.popPair`, which loads the two bytes of the top word. -/
theorem popLoadsThePair : Obligations.PopLoadsThePair := fun s =>
  ⟨⟨rfl, (exec_pop .bc s).trans (congrArg _ s.popPair_bc)⟩, ⟨rfl, (exec_pop .de s).trans (congrArg _ s.popPair_de)⟩,
    ⟨rfl, (exec_pop .hl s).trans (congrArg _ s.popPair_hl)⟩⟩

end Sys2Proof.Machine

/-! PROOFS. The encoding (30_encoding.md): which bytes are fatal, the bytes that what is decoded encodes to, and the round trip from
the fact that the decoder reaches every well-formed instruction. -/

namespace Sys2Proof.Machine

/-! ## The fatal opcodes (R104) -/

/-- A fatal opcode is decoded as fatal, whatever follows it: neither tier of R105 selects it. -/
theorem decodeInstr_of_mem_fatalOpcodes {op : Byte} (h : op ∈ fatalOpcodes) (b2 b3 : Byte) :
    decodeInstr op b2 b3 = .fatal op := by
  simp only [fatalOpcodes, List.mem_cons, List.not_mem_nil, or_false] at h
  rcases h with rfl | rfl | rfl | rfl | rfl | rfl | rfl | rfl | rfl | rfl | rfl | rfl <;> rfl

theorem decodeInstr_eq_fatal_iff (op b2 b3 : Byte) : decodeInstr op b2 b3 = .fatal op ↔ op ∈ fatalOpcodes :=
  ⟨mem_fatalOpcodes_of_decodeInstr, fun h => decodeInstr_of_mem_fatalOpcodes h b2 b3⟩

theorem filter_mem_fatalOpcodes :
    ((List.range 256).filter fun n => decide (BitVec.ofNat 8 n ∈ fatalOpcodes)) = fatalOpcodes.map BitVec.toNat := by
  decide

/-- The 244 are what the 12 leave of the 256 byte values. -/
theorem countP_not_mem_fatalOpcodes :
    ((List.range 256).countP fun n => decide (BitVec.ofNat 8 n ∉ fatalOpcodes)) = 244 := by
  have hmem : ((List.range 256).countP fun n => decide (BitVec.ofNat 8 n ∈ fatalOpcodes)) = 12 := by
    rw [List.countP_eq_length_filter, filter_mem_fatalOpcodes]
    rfl
  have hsum := List.length_eq_countP_add_countP (l := List.range 256) fun n => decide (BitVec.ofNat 8 n ∈ fatalOpcodes)
  simp only [List.length_range, hmem, decide_eq_true_eq] at hsum
  omega

/-- Settles O4: an opcode is decoded as fatal exactly if it is one of the 12, so the operand bytes drop out of the count. -/
theorem fatalOpcodesAreTheTwelve : Obligations.FatalOpcodesAreTheTwelve := by
  refine ⟨decodeInstr_eq_fatal_iff, fun b2 b3 => ?_⟩
  simp only [ne_eq, decodeInstr_eq_fatal_iff]
  exact countP_not_mem_fatalOpcodes

/-! ## Encoding what was decoded (R102, R111) -/

/-- What is decoded encodes to the bytes read, a word operand by way of its word (R73), cut at the opcode's length. -/
theorem encode_decodeInstr (op b2 b3 : Byte) : encode (decodeInstr op b2 b3) =
    (if opLength op = 3 then op :: wordBytes (wordOf b3 b2) else [op, b2, b3]).take (opLength op) := by
  obtain ⟨n, hn, rfl⟩ := exists_byte op
  interval_cases n <;> rfl

/-- Settles O2: the bytes of a word operand put together are the two bytes read. -/
theorem encodeInvertsDecode : Obligations.EncodeInvertsDecode := by
  intro op b2 b3
  rw [encode_decodeInstr, bytes_of_wordOf, ite_self]

/-! ## Decoding what was encoded (R100 to R108) -/

/-- The decoder reads no byte beyond the opcode's length (R102). -/
theorem decode_take_opLength (op b2 b3 : Byte) (rest : List Byte) :
    decode ([op, b2, b3].take (opLength op) ++ rest) = .ok (decodeInstr op b2 b3, rest) := by
  obtain ⟨n, hn, rfl⟩ := exists_byte op
  interval_cases n <;> rfl

/-- Every word is two bytes joined (R10). -/
theorem exists_wordOf (v : Word) : ∃ h l, wordOf h l = v := ⟨hiByte v, loByte v, wordOf_hiByte_loByte v⟩

/-- The decoder reaches every well-formed instruction, from its opcode byte and its operand: a word, a byte, or none. -/
theorem exists_decodeInstr_eq {i : Instr} (hwf : i.wf = true) : ∃ b2 b3, decodeInstr i.opcode b2 b3 = i := by
  cases i with
  | fatal op => exact ⟨0, 0, decodeInstr_of_mem_fatalOpcodes (List.contains_iff_mem.mp hwf) 0 0⟩
  | lxiB v | lxiD v | lxiH v | lxiSp v | shld v | lhld v | sta v | lda v | jmp v | call v
  | jnz v | jz v | jnc v | jc v | jpo v | jpe v | jp v | jm v
  | cnz v | cz v | cnc v | cc v | cpo v | cpe v | cp v | cm v =>
    obtain ⟨b3, b2, rfl⟩ := exists_wordOf v
    refine ⟨b2, b3, ?_⟩
    dsimp only [Instr.opcode]
    rfl
  | mviB v | mviC v | mviD v | mviE v | mviH v | mviL v | mviM v | mviA v
  | adi v | aci v | sui v | sbi v | ani v | xri v | ori v | cpi v | inp v | out v =>
    refine ⟨v, 0, ?_⟩
    dsimp only [Instr.opcode]
    rfl
  | _ => exact ⟨0, 0, rfl⟩

/-- Settles O1: the instruction is what its opcode and some two bytes decode to, so its bytes are those bytes cut at the opcode's
length (`encodeInvertsDecode`), which is all that the decoder reads. -/
theorem decodeInvertsEncode : Obligations.DecodeInvertsEncode := by
  intro i hwf rest
  obtain ⟨b2, b3, hi⟩ := exists_decodeInstr_eq hwf
  have hbytes : encode i = [i.opcode, b2, b3].take (opLength i.opcode) := by
    rw [← encodeInvertsDecode, hi]
  rw [hbytes, decode_take_opLength, hi]

/-! ## Samples (R107, R108) -/

/-- Settles O5: the decoder computes each of the ten words. -/
theorem sampleWordsDecode : Obligations.SampleWordsDecode := by
  unfold Obligations.SampleWordsDecode
  decide

end Sys2Proof.Machine

/-! PROOFS. The dispatch (40_dispatch.md): the decoder answers the one well-formed instruction that the bytes begin with, so a
fetching step runs the instruction that stands at `pc`; and what a fatal and an executed instruction cost. -/

namespace Sys2Proof.Machine

/-! ## The one instruction that bytes begin with (R136) -/

/-- Three bytes decode to the instruction they select, and what is behind its length is left over. -/
theorem decode_bytes (op b2 b3 : Byte) :
    decode [op, b2, b3] = .ok (decodeInstr op b2 b3, [op, b2, b3].drop (opLength op)) := by
  rw [← decode_take_opLength, List.take_append_drop]

theorem eq_decodeInstr_of_encode_prefix {i : Instr} {op b2 b3 : Byte} (hwf : i.wf = true)
    (hi : encode i <+: [op, b2, b3]) : i = decodeInstr op b2 b3 := by
  obtain ⟨rest, hrest⟩ := hi
  have hd : Except.ok (i, rest) = decode [op, b2, b3] := hrest ▸ (decodeInvertsEncode i hwf rest).symm
  rw [decode_bytes] at hd
  exact congrArg Prod.fst (Except.ok.inj hd)

/-- Settles O3: an instruction whose bytes begin the three is what `decode` answers on them (`decodeInvertsEncode`), and `decode`
answers one instruction only. -/
theorem decoderIsTotalAndUnique : Obligations.DecoderIsTotalAndUnique := fun op b2 b3 =>
  ⟨wf_decodeInstr op b2 b3, fun _ => eq_decodeInstr_of_encode_prefix⟩

/-! ## The length of an instruction (R100, R102) -/

theorem opLength_bounds (op : Byte) : 1 ≤ opLength op ∧ opLength op ≤ 3 := by
  unfold opLength
  dsimp only
  split_ifs <;> decide

theorem length_encode {i : Instr} (hwf : i.wf = true) : (encode i).length = i.length := by
  obtain ⟨b2, b3, hi⟩ := exists_decodeInstr_eq hwf
  have hlen := congrArg List.length (encodeInvertsDecode i.opcode b2 b3)
  rw [hi, List.length_take] at hlen
  exact hlen.trans (min_eq_left (opLength_bounds i.opcode).2)

theorem Instr.pcAdvance_of_ne_fatal {i : Instr} (h : ∀ op, i ≠ .fatal op) : i.pcAdvance = i.length := by
  unfold Instr.pcAdvance
  split
  · exact absurd rfl (h _)
  · rfl

/-! ## The step at the bytes of an instruction (R130 to R133) -/

theorem encode_prefix_of_memRead {s : State} {i : Instr} (hwf : i.wf = true)
    (hb : ∀ (k : Nat) (hk : k < (encode i).length), s.memRead (s.pc + BitVec.ofNat 16 k) = (encode i)[k]) :
    encode i <+: [s.memRead s.pc, s.memRead (s.pc + 1), s.memRead (s.pc + 2)] := by
  have hlen : (encode i).length ≤ 3 := (length_encode hwf).trans_le (opLength_bounds i.opcode).2
  refine List.prefix_iff_getElem.mpr ⟨hlen, fun k hk => ?_⟩
  rw [← hb k hk]
  have hk3 : k < 3 := hk.trans_le hlen
  interval_cases k
  · exact congrArg s.memRead (BitVec.add_zero s.pc)
  · rfl
  · rfl

/-- Settles O7: the bytes at `pc` are decoded to the instruction they are the encoding of (`eq_decodeInstr_of_encode_prefix`), and
its `pcAdvance` is the length of that encoding unless it is fatal. -/
theorem stepRunsTheInstructionAtPc : Obligations.StepRunsTheInstructionAtPc := by
  intro s i hwf hrun hhalt hlatch hb
  have hstep := step_fetch (State.stepCase_fetch hrun hlatch hhalt)
  rw [← eq_decodeInstr_of_encode_prefix hwf (encode_prefix_of_memRead hwf hb)] at hstep
  rw [hstep, State.advance]
  dsimp only
  split
  · rfl
  · next hi =>
    rw [Instr.pcAdvance_of_ne_fatal hi, ← length_encode hwf]
    rfl

/-! ## A fatal opcode (R135) -/

theorem exec_fatal (op : Byte) (s : State) : exec (.fatal op) s = .next (s.fatalStop op) := rfl

theorem executeCycles_of_mem_fatalOpcodes {op : Byte} (h : op ∈ fatalOpcodes) (b2 b3 : Byte) (s : State) :
    executeCycles op b2 b3 s = 0 := by
  rw [executeCycles, decodeInstr_of_mem_fatalOpcodes h]
  rfl

theorem stepCycles_service {s : State} {op b2 b3 : Byte} (h : s.stepCase = .service op b2 b3) :
    stepCycles s = executeCycles op b2 b3 s := by
  rw [stepCycles, h]

theorem stepCycles_fetch {s : State} {op b2 b3 : Byte} (h : s.stepCase = .fetch op b2 b3) :
    stepCycles s = executeCycles op b2 b3 s := by
  rw [stepCycles, h]

theorem step_service_fatal {s : State} {op b2 b3 : Byte} (hop : op ∈ fatalOpcodes) (h : s.stepCase = .service op b2 b3) :
    step s = .next ((s.enterInterrupt.fatalStop op).endStep s.latch.latched) ∧ stepCycles s = 0 := by
  rw [step_service h, stepCycles_service h, executeCycles_of_mem_fatalOpcodes hop, decodeInstr_of_mem_fatalOpcodes hop,
    exec_fatal, thenDo_next]
  exact ⟨rfl, rfl⟩

theorem step_fetch_fatal {s : State} {op b2 b3 : Byte} (hop : op ∈ fatalOpcodes) (h : s.stepCase = .fetch op b2 b3) :
    step s = .next ((s.fatalStop op).endStep s.latch.latched) ∧ stepCycles s = 0 := by
  rw [step_fetch h, stepCycles_fetch h, executeCycles_of_mem_fatalOpcodes hop, decodeInstr_of_mem_fatalOpcodes hop,
    State.advance_fatal, exec_fatal, thenDo_next]
  exact ⟨rfl, rfl⟩

/-- Settles O13: both steps are `fatalStop` between the two ends of the step, which leave a fetched stop alone while the latch is
empty. -/
theorem fatalOpcodeStopsTheMachine : Obligations.FatalOpcodeStopsTheMachine := by
  intro s op hop
  refine ⟨exec_fatal op s, fun hrun hhalt hlatch hpc => ?_, fun hrun hlatch hie hlop => ?_⟩
  · subst hpc
    have hstep := step_fetch_fatal hop (State.stepCase_fetch hrun (by simp [hlatch]) hhalt)
    rwa [hlatch] at hstep
  · subst hlop
    have hstep := step_service_fatal hop (State.stepCase_service hrun hlatch hie)
    rwa [hlatch] at hstep

/-! ## The cost of an executed instruction (R134) -/

theorem opcode_decodeInstr (op b2 b3 : Byte) : (decodeInstr op b2 b3).opcode = op := by
  have hbytes := encodeInvertsDecode op b2 b3
  obtain ⟨n, hn⟩ : ∃ n, opLength op = n + 1 := Nat.exists_eq_add_of_le' (opLength_bounds op).1
  rw [hn] at hbytes
  exact (List.cons.inj hbytes).1

theorem executeCycles_of_not_mem_fatalOpcodes {op : Byte} (h : op ∉ fatalOpcodes) (b2 b3 : Byte) (s : State) :
    executeCycles op b2 b3 s = Config.cycleCost op (s.taken (decodeInstr op b2 b3)) := by
  unfold executeCycles
  split
  · next op' hd =>
    have hop : op' = op := (congrArg Instr.opcode hd).symm.trans (opcode_decodeInstr op b2 b3)
    exact absurd (mem_fatalOpcodes_of_decodeInstr (hop ▸ hd)) h
  · rfl

/-- The conditional instructions are the groups `11 ccc 000`, `11 ccc 010` and `11 ccc 100` (R107 group 7). -/
theorem condition_decodeInstr (op b2 b3 : Byte) : (decodeInstr op b2 b3).condition =
    if fieldF2 op = 3 ∧ (fieldReg2 op = 0 ∨ fieldReg2 op = 2 ∨ fieldReg2 op = 4) then some (Cond.ofIndex (fieldReg1 op))
    else none := by
  obtain ⟨n, hn, rfl⟩ := exists_byte op
  interval_cases n <;> rfl

/-- The two tables of the conditions (R42) are inverse to each other. -/
theorem ofIndex_eq_iff (i : BitVec 3) (k : Cond) : Cond.ofIndex i = k ↔ condIndex k = i := by
  revert i
  cases k <;> decide

theorem State.taken_iff (s : State) (i : Instr) : s.taken i = true ↔ ∃ k, i.condition = some k ∧ condMeans k s.f := by
  unfold State.taken
  split
  · next k hk => simp [hk, condHolds_iff]
  · next hk => simp [hk]

theorem State.taken_decodeInstr_iff (s : State) (op b2 b3 : Byte) : s.taken (decodeInstr op b2 b3) = true ↔
    (fieldF2 op = 3 ∧ (fieldReg2 op = 0 ∨ fieldReg2 op = 2 ∨ fieldReg2 op = 4)) ∧
      ∃ k, condIndex k = fieldReg1 op ∧ condMeans k s.f := by
  simp only [State.taken_iff, condition_decodeInstr, Option.ite_none_right_eq_some, Option.some.injEq, ofIndex_eq_iff,
    and_assoc, exists_and_left]

/-- Settles O17: the count is that of the model's `taken`, which holds exactly when the opcode's fields and the flags say so. -/
theorem executedInstructionCostsItsCycles : Obligations.ExecutedInstructionCostsItsCycles := by
  intro s op b2 b3 taken hop htaken
  have heq : s.taken (decodeInstr op b2 b3) = taken :=
    Bool.eq_iff_iff.mpr ((State.taken_decodeInstr_iff s op b2 b3).trans htaken.symm)
  rw [executeCycles_of_not_mem_fatalOpcodes hop, heq]

end Sys2Proof.Machine

/-! PROOFS. The statements about arithmetic and logic (41_alu_flags.md, 43_arith_logic.md): the accumulator operations by the ALU
output each of them writes, INR and DCR, DAD, and DAA by its two conditional adjustments. -/

namespace Sys2Proof.Machine

/-! ## The accumulator instructions (R107 groups 4 and 5, R151, R162) -/

/-- The index of an accumulator operation (R151). -/
def aluIndex : AluOp → BitVec 3
  | .add => 0
  | .adc => 1
  | .sub => 2
  | .sbb => 3
  | .ana => 4
  | .xra => 5
  | .ora => 6
  | .cmp => 7

/-- The decoder reads the index back. -/
theorem ofIndex_aluIndex (op : AluOp) : AluOp.ofIndex (aluIndex op) = op := by
  cases op <;> rfl

theorem encode_aluReg (op : AluOp) (r : Reg8) : encode (Asm.aluReg op r) = [0b10#2 ++ aluIndex op ++ regIndex r] := by
  cases op <;> cases r <;> rfl

theorem encode_aluImm (op : AluOp) (d8 : Byte) : encode (Asm.aluImm op d8) = [0b11#2 ++ aluIndex op ++ 0b110#3, d8] := by
  cases op <;> rfl

theorem exec_aluReg (op : AluOp) (r : Reg8) (s : State) : exec (Asm.aluReg op r) s = .next (s.aluReg op r) := by
  cases op <;> cases r <;> rfl

theorem exec_aluImm (op : AluOp) (d8 : Byte) (s : State) : exec (Asm.aluImm op d8) s = .next (s.aluImm op d8) := by
  cases op <;> rfl

/-! ## Addition (R156) -/

/-- An instruction that writes the output of an add has the effect of R156. -/
theorem aluEffect_add {i : Instr} {s : State} {x : Byte} {cin : Bool}
    (h : exec i s = .next { s with a := (aluAdd s.a x cin).result, f := writeFlags5 s.f (aluAdd s.a x cin) }) :
    AluEffect i s (BitVec.ofNat 8 (s.a.toNat + x.toNat + cin.toNat)) (BitVec.ofNat 8 (s.a.toNat + x.toNat + cin.toNat))
      (s.a.toNat + x.toNat + cin.toNat > 255) (s.a.toNat % 16 + x.toNat % 16 + cin.toNat > 15) :=
  aluEffect_of decide_eq_true_iff decide_eq_true_iff h

/-- Settles O34: the four forms differ in the operand and in the carry they add (`aluEffect_add`). -/
theorem addFormsAddWithCarry : Obligations.AddFormsAddWithCarry := fun s =>
  ⟨fun r => ⟨encode_aluReg .add r, aluEffect_add (cin := false) (exec_aluReg .add r s)⟩,
    fun r => ⟨encode_aluReg .adc r, aluEffect_add (exec_aluReg .adc r s)⟩,
    fun d8 => ⟨encode_aluImm .add d8, aluEffect_add (cin := false) (exec_aluImm .add d8 s)⟩,
    fun d8 => ⟨encode_aluImm .adc d8, aluEffect_add (exec_aluImm .adc d8 s)⟩⟩

/-! ## Subtraction and comparison (R157, R160, D5) -/

/-- An instruction that writes the output of a subtraction, and into A what it may, writes the flags of R157. -/
theorem aluEffect_sub {i : Instr} {s : State} {x acc : Byte} {cin : Bool}
    (h : exec i s = .next { s with a := acc, f := writeFlags5 s.f (aluSub s.a x cin) }) :
    AluEffect i s (BitVec.ofInt 8 (s.a.toNat - x.toNat - cin.toNat)) acc
      (x.toNat + cin.toNat > s.a.toNat) (s.a.toNat % 16 < x.toNat % 16 + cin.toNat) := by
  rw [← sub_eq_ofInt]
  exact aluEffect_of decide_eq_true_iff decide_eq_true_iff h

/-- A subtraction that keeps its difference in A. -/
theorem aluEffect_sub_result {i : Instr} {s : State} {x : Byte} {cin : Bool}
    (h : exec i s = .next { s with a := (aluSub s.a x cin).result, f := writeFlags5 s.f (aluSub s.a x cin) }) :
    AluEffect i s (BitVec.ofInt 8 (s.a.toNat - x.toNat - cin.toNat)) (BitVec.ofInt 8 (s.a.toNat - x.toNat - cin.toNat))
      (x.toNat + cin.toNat > s.a.toNat) (s.a.toNat % 16 < x.toNat % 16 + cin.toNat) := by
  have hresult : (aluSub s.a x cin).result = _ := sub_eq_ofInt s.a x cin
  have hsub := aluEffect_sub h
  rwa [hresult] at hsub

/-- Settles O35: the four forms differ in the operand and in the borrow they subtract (`aluEffect_sub_result`). -/
theorem subtractFormsBorrow : Obligations.SubtractFormsBorrow := fun s =>
  ⟨fun r => ⟨encode_aluReg .sub r, aluEffect_sub_result (cin := false) (exec_aluReg .sub r s)⟩,
    fun r => ⟨encode_aluReg .sbb r, aluEffect_sub_result (exec_aluReg .sbb r s)⟩,
    fun d8 => ⟨encode_aluImm .sub d8, aluEffect_sub_result (cin := false) (exec_aluImm .sub d8 s)⟩,
    fun d8 => ⟨encode_aluImm .sbb d8, aluEffect_sub_result (exec_aluImm .sbb d8 s)⟩⟩

/-- A subtraction without borrow that keeps A. -/
theorem aluEffect_compare {i : Instr} {s : State} {x : Byte}
    (h : exec i s = .next { s with a := s.a, f := writeFlags5 s.f (aluSub s.a x false) }) :
    AluEffect i s (BitVec.ofInt 8 (s.a.toNat - x.toNat)) s.a (x.toNat > s.a.toNat) (s.a.toNat % 16 < x.toNat % 16) := by
  have hsub := aluEffect_sub h
  rwa [Bool.toNat_false, Int.natCast_zero, sub_zero] at hsub

/-- Settles O36: both forms subtract without borrow and keep A (`aluEffect_compare`). -/
theorem compareKeepsA : Obligations.CompareKeepsA := fun s =>
  ⟨fun r => ⟨encode_aluReg .cmp r, aluEffect_compare (exec_aluReg .cmp r s)⟩,
    fun d8 => ⟨encode_aluImm .cmp d8, aluEffect_compare (exec_aluImm .cmp d8 s)⟩⟩

/-! ## The logical operations (R158, R159, D6, D7) -/

/-- An instruction that writes the output of an AND has the effect of R158. -/
theorem aluEffect_and {i : Instr} {s : State} {x : Byte} {track : Bool}
    (h : exec i s = .next { s with a := (aluAnd s.a x track).result, f := writeFlags5 s.f (aluAnd s.a x track) }) :
    AluEffect i s (s.a &&& x) (s.a &&& x) False (track = true ∧ (s.a.getLsbD 3 = true ∨ x.getLsbD 3 = true)) :=
  aluEffect_of Bool.false_eq_true.to_iff (by rw [Bool.and_eq_true, Bool.or_eq_true]) h

/-- Settles O37: the register form reads its own parameter and the immediate form the other (`aluEffect_and`). -/
theorem andFormsTrackAcAsConfigured : Obligations.AndFormsTrackAcAsConfigured := fun s =>
  ⟨fun r => ⟨encode_aluReg .ana r, aluEffect_and (exec_aluReg .ana r s)⟩,
    fun d8 => ⟨encode_aluImm .ana d8, aluEffect_and (exec_aluImm .ana d8 s)⟩⟩

/-- An instruction that writes a result without carries (R159, D7). -/
theorem aluEffect_clear {i : Instr} {s : State} {v : Byte}
    (h : exec i s = .next { s with a := v, f := writeFlags5 s.f (aluOut v false false) }) :
    AluEffect i s v v False False :=
  aluEffect_of Bool.false_eq_true.to_iff Bool.false_eq_true.to_iff h

/-- Settles O38: exclusive or and or are results without carries (`aluEffect_clear`). -/
theorem xorAndOrFormsClearCarries : Obligations.XorAndOrFormsClearCarries := fun s =>
  ⟨fun r => ⟨encode_aluReg .xra r, aluEffect_clear (exec_aluReg .xra r s)⟩,
    fun r => ⟨encode_aluReg .ora r, aluEffect_clear (exec_aluReg .ora r s)⟩,
    fun d8 => ⟨encode_aluImm .xra d8, aluEffect_clear (exec_aluImm .xra d8 s)⟩,
    fun d8 => ⟨encode_aluImm .ora d8, aluEffect_clear (exec_aluImm .ora d8 s)⟩⟩

/-! ## Increment and decrement (R163, R164, R224 to R227, D8) -/

theorem encode_inr (r : Reg8) : encode (Asm.inr r) = [0b00#2 ++ regIndex r ++ 0b100#3] := by
  cases r <;> rfl

theorem encode_dcr (r : Reg8) : encode (Asm.dcr r) = [0b00#2 ++ regIndex r ++ 0b101#3] := by
  cases r <;> rfl

theorem exec_inr (r : Reg8) (s : State) : exec (Asm.inr r) s = .next (s.increment r) := by
  cases r <;> rfl

theorem exec_dcr (r : Reg8) (s : State) : exec (Asm.dcr r) s = .next (s.decrement r) := by
  cases r <;> rfl

/-- What INR and DCR do to the state: the operand takes the result, F the four flags (R163, R164). -/
def State.takeCount (r : Reg8) (o : AluOut) (s : State) : State := (s.setReg8 r o.result).setF (writeFlags4 s.f o)

theorem inc8_eq (v : Byte) :
    inc8 v = aluOut (v + 1) (decide (v.toNat + 1 > 255)) (decide (v.toNat % 16 + 1 > 15)) := by
  have hresult : BitVec.ofNat 8 (v.toNat + 1) = v + 1 := by
    rw [BitVec.ofNat_add, BitVec.ofNat_toNat, BitVec.setWidth_eq]
    rfl
  rw [← hresult]
  rfl

theorem dec8_eq (v : Byte) : dec8 v = aluOut (v - 1) (decide (1 > v.toNat)) (decide (v.toNat % 16 < 1)) := by
  have hresult : v - 1 - BitVec.ofNat 8 0 = v - 1 := BitVec.sub_zero _
  rw [← hresult]
  rfl

/-- No write of an operand touches F. -/
@[simp] theorem State.setReg8_f (s : State) (r : Reg8) (v : Byte) : (s.setReg8 r v).f = s.f := by
  cases r with
  | m => exact s.memWrite_f s.hl v
  | _ => rfl

/-- The effect of INR and DCR in the words of their statement (O39), for a count that gives `v`. -/
def CountEffect (i : Instr) (s : State) (r : Reg8) (v : Byte) (ac : Prop) : Prop :=
  ∃ t, exec i s = .next t ∧ (flagAC t.f = true ↔ ac) ∧ ResultFlags t.f v ∧ SameBits [0, 1, 3, 5] s.f t.f ∧
    (r ≠ .m → OnlyRegister r v s { t with f := s.f }) ∧
    (r = .m → StoredBytes [(s.h ++ s.l, v)] s t ∧ t = { s with f := t.f, mem := t.mem, outbox := t.outbox })

/-- Taking F back leaves the write of the operand. -/
theorem State.takeCount_with_f (s : State) (r : Reg8) (o : AluOut) :
    { s.takeCount r o with f := s.f } = s.setReg8 r o.result := by
  cases r with
  | m => exact congrArg (fun f => { s.setReg8 .m o.result with f := f }) (s.setReg8_f .m o.result).symm
  | _ => rfl

theorem State.takeCount_m_frame (s : State) (o : AluOut) : s.takeCount .m o =
    { s with f := (s.takeCount .m o).f, mem := (s.takeCount .m o).mem, outbox := (s.takeCount .m o).outbox } :=
  congrArg (State.setF _) (s.memWrite_frame s.hl o.result)

theorem countEffect_of {i : Instr} {s : State} {r : Reg8} {v : Byte} {cy ac : Bool} {AC : Prop} (hac : ac = true ↔ AC)
    (h : exec i s = .next (s.takeCount r (aluOut v cy ac))) : CountEffect i s r v AC := by
  refine ⟨_, h, ?_, resultFlags_writeFlags4 _ _ _ _, sameBits_writeFlags4 _ _, fun hr => ?_, fun hr => ?_⟩
  · rw [flagAC_eq]
    exact (Bool.eq_iff_iff.mp (getLsbD_writeFlags4 s.f (aluOut v cy ac) 4)).trans hac
  · rw [State.takeCount_with_f]
    exact onlyRegister_setReg8 hr v s
  · subst hr
    exact ⟨(storedBytes_memWrite s s.hl v).congr rfl rfl, s.takeCount_m_frame _⟩

theorem State.increment_eq_takeCount (s : State) (r : Reg8) : s.increment r = s.takeCount r
    (aluOut (s.reg8 r + 1) (decide ((s.reg8 r).toNat + 1 > 255)) (decide ((s.reg8 r).toNat % 16 + 1 > 15))) :=
  congrArg (fun o => s.takeCount r o) (inc8_eq (s.reg8 r))

theorem State.decrement_eq_takeCount (s : State) (r : Reg8) : s.decrement r = s.takeCount r
    (aluOut (s.reg8 r - 1) (decide (1 > (s.reg8 r).toNat)) (decide ((s.reg8 r).toNat % 16 < 1))) :=
  congrArg (fun o => s.takeCount r o) (dec8_eq (s.reg8 r))

theorem countEffect_inr (s : State) (r : Reg8) :
    CountEffect (Asm.inr r) s r (s.reg8 r + 1) ((s.reg8 r).toNat % 16 = 15) :=
  countEffect_of (decide_eq_true_iff.trans (by omega)) ((exec_inr r s).trans (congrArg _ (s.increment_eq_takeCount r)))

theorem countEffect_dcr (s : State) (r : Reg8) :
    CountEffect (Asm.dcr r) s r (s.reg8 r - 1) ((s.reg8 r).toNat % 16 = 0) :=
  countEffect_of (decide_eq_true_iff.trans Nat.lt_one_iff)
    ((exec_dcr r s).trans (congrArg _ (s.decrement_eq_takeCount r)))

/-- Settles O39: both counts write an operand and the four flags of their ALU output (`countEffect_of`). -/
theorem inrAndDcrCount : Obligations.InrAndDcrCount := fun s r =>
  ⟨⟨encode_inr r, countEffect_inr s r⟩, encode_dcr r, countEffect_dcr s r⟩

/-! ## The 16-bit add (R165, R230) -/

theorem encode_dad (rp : Pair) : encode (Asm.dad rp) = [0b00#2 ++ pairIndex rp ++ 0b1001#4] := by
  cases rp <;> rfl

theorem exec_dad (rp : Pair) (s : State) : exec (Asm.dad rp) s = .next (s.addPairToHl rp) := by
  cases rp <;> rfl

/-- HL after `DAD` is the sum of `add16`. -/
theorem State.hl_addPairToHl (s : State) (rp : Pair) :
    (s.addPairToHl rp).hl = BitVec.ofNat 16 (s.hl.toNat + (s.pair rp .sp).toNat) := wordOf_hiByte_loByte _

/-- Settles O41: the sum and the carry are those of `add16`, and the carry is all of F that is written. -/
theorem dadAddsThePair : Obligations.DadAddsThePair := by
  intro s rp
  refine ⟨encode_dad rp, s.addPairToHl rp, exec_dad rp s, ?_, ?_, sameBits_withCY _ _, rfl, fun _ => rfl⟩
  · exact (congrArg BitVec.toNat (s.hl_addPairToHl rp)).trans (BitVec.toNat_ofNat _ _)
  · exact (Bool.eq_iff_iff.mp (flagCY_withCY s.f _)).trans decide_eq_true_iff

end Sys2Proof.Machine

/-! PROOFS. The decimal adjust (41_alu_flags.md R166, R167, D9): one conditional adjustment is described once and `daa` is two of
them; then ADI and DAA together add packed decimals. -/

namespace Sys2Proof.Machine

/-! ## One adjustment (R166) -/

/-- An adjustment of A and F that runs where its test holds. -/
def adjustIf (c : Prop) [Decidable c] (x : Byte) (af : Byte × Byte) : Byte × Byte := if c then daaAdd x af else af

section Adjustment

variable {c : Prop} [Decidable c] (x : Byte) (af : Byte × Byte)

theorem adjustIf_of (hc : c) : adjustIf c x af = daaAdd x af := if_pos hc

theorem adjustIf_of_not (hc : ¬c) : adjustIf c x af = af := if_neg hc

theorem toNat_adjustIf_of (hc : c) : (adjustIf c x af).1.toNat = (af.1.toNat + x.toNat) % 256 := by
  rw [adjustIf_of x af hc]
  exact BitVec.toNat_ofNat _ _

theorem toNat_adjustIf_of_not (hc : ¬c) : (adjustIf c x af).1.toNat = af.1.toNat := by
  rw [adjustIf_of_not x af hc]

/-- A set CY stays set, and an adjustment that overflows sets it (R166). -/
theorem flagCY_adjustIf : flagCY (adjustIf c x af).2 = true ↔ flagCY af.2 = true ∨ (c ∧ af.1.toNat + x.toNat > 255) := by
  by_cases hc : c
  · have hcy : flagCY (daaAdd x af).2 = (flagCY af.2 || decide (af.1.toNat + x.toNat > 255)) :=
      getLsbD_writeFlags5 af.2 _ 0
    rw [adjustIf_of x af hc, hcy, Bool.or_eq_true, decide_eq_true_iff, and_iff_right hc]
  · rw [adjustIf_of_not x af hc]
    exact (or_iff_left fun h => hc h.1).symm

theorem flagAC_adjustIf_of (hc : c) :
    flagAC (adjustIf c x af).2 = true ↔ af.1.toNat % 16 + x.toNat % 16 > 15 := by
  have hac : flagAC (daaAdd x af).2 = decide (af.1.toNat % 16 + x.toNat % 16 > 15) := getLsbD_writeFlags5 af.2 _ 4
  rw [adjustIf_of x af hc, hac, decide_eq_true_iff]

theorem resultFlags_adjustIf_of (hc : c) : ResultFlags (adjustIf c x af).2 (adjustIf c x af).1 := by
  rw [adjustIf_of x af hc]
  exact resultFlags_writeFlags5 af.2 _ _ _

theorem sameBits_adjustIf : SameBits [1, 3, 5] af.2 (adjustIf c x af).2 := by
  by_cases hc : c
  · rw [adjustIf_of x af hc]
    exact sameBits_writeFlags5 af.2 _
  · rw [adjustIf_of_not x af hc]
    exact fun _ _ => rfl

end Adjustment

/-! ## The two adjustments (R166, R167, D9) -/

/-- A and F after the first adjustment. -/
def lowAdjust (a f : Byte) : Byte × Byte := adjustIf (a.toNat % 16 > 9 ∨ flagAC f = true) 0x06#8 (a, f)

/-- A and F after the second adjustment, whose test reads what the first left. -/
def highAdjust (af : Byte × Byte) : Byte × Byte := adjustIf (af.1.toNat / 16 > 9 ∨ flagCY af.2 = true) 0x60#8 af

theorem daa_eq_highAdjust (a f : Byte) : daa a f = highAdjust (lowAdjust a f) := rfl

theorem exec_daa (s : State) : exec .daa s =
    .next { s with a := (highAdjust (lowAdjust s.a s.f)).1, f := (highAdjust (lowAdjust s.a s.f)).2 } := rfl

/-- The flags where an adjustment ran are those of the last one; AC is 0 where that was the second, since the low nibble of 0x60
is 0. -/
theorem flags_highAdjust_lowAdjust {a f : Byte} {low high : Prop} (hlow : (a.toNat % 16 > 9 ∨ flagAC f = true) ↔ low)
    (hhigh : ((lowAdjust a f).1.toNat / 16 > 9 ∨ flagCY (lowAdjust a f).2 = true) ↔ high) (hrun : low ∨ high) :
    ResultFlags (highAdjust (lowAdjust a f)).2 (highAdjust (lowAdjust a f)).1 ∧
      (flagAC (highAdjust (lowAdjust a f)).2 = true ↔ ¬high ∧ a.toNat % 16 + 6 > 15) := by
  by_cases h : high
  · have hac := flagAC_adjustIf_of 0x60#8 (lowAdjust a f) (hhigh.mpr h)
    have hlt : ¬((lowAdjust a f).1.toNat % 16 + 0 > 15) := by omega
    exact ⟨resultFlags_adjustIf_of _ _ (hhigh.mpr h), hac.trans (iff_of_false hlt fun hn => hn.1 h)⟩
  · have hskip : highAdjust (lowAdjust a f) = lowAdjust a f := adjustIf_of_not _ _ (mt hhigh.mp h)
    have hl := hlow.mpr (hrun.resolve_right h)
    rw [hskip, and_iff_right h]
    exact ⟨resultFlags_adjustIf_of _ _ hl, flagAC_adjustIf_of _ _ hl⟩

/-- Settles O42: `a1` is A after the first adjustment, and CY after it is what the second test reads. -/
theorem daaAdjustsTwice : Obligations.DaaAdjustsTwice := by
  refine ⟨rfl, fun s => ⟨(lowAdjust s.a s.f).1.toNat, toNat_adjustIf_of _ _, toNat_adjustIf_of_not _ _, ?_⟩⟩
  have hcy : flagCY (lowAdjust s.a s.f).2 = true ↔
      flagCY s.f = true ∨ ((s.a.toNat % 16 > 9 ∨ flagAC s.f = true) ∧ s.a.toNat + 6 > 255) := flagCY_adjustIf _ _
  dsimp only
  rw [← hcy]
  refine ⟨_, exec_daa s, ⟨rfl, fun _ => rfl⟩, fun k hk => ?_, toNat_adjustIf_of _ _, toNat_adjustIf_of_not _ _,
    flagCY_adjustIf _ _, flags_highAdjust_lowAdjust .rfl .rfl, fun ⟨hlow, hhigh⟩ => ?_⟩
  · exact (sameBits_adjustIf _ _ k hk).trans (sameBits_adjustIf _ _ k hk)
  · have hskip : highAdjust (lowAdjust s.a s.f) = (s.a, s.f) :=
      (adjustIf_of_not _ _ hhigh).trans (adjustIf_of_not _ _ hlow)
    exact congrArg Prod.snd hskip

/-! ## Packed decimals -/

/-- The sum of two digits and a carry is a digit and a carry. -/
theorem exists_digit_carry {n : Nat} (hn : n ≤ 19) : ∃ c d, c ≤ 1 ∧ d ≤ 9 ∧ n = 10 * c + d :=
  ⟨n / 10, n % 10, by omega, by omega, by omega⟩

/-- A byte that packs two digits. -/
theorem toNat_packed {d1 d0 : Nat} (h1 : d1 ≤ 9) (h0 : d0 ≤ 9) :
    (BitVec.ofNat 8 (16 * d1 + d0)).toNat = 16 * d1 + d0 :=
  (BitVec.toNat_ofNat _ _).trans (Nat.mod_eq_of_lt (by omega))

/-- Settles O43: the first adjustment runs exactly if the ones carry (`c0`) and the second exactly if the tens do (`c1`), so each
leaves the digit of its place; the carry of the tens is the hundreds. -/
theorem daaCorrectsDecimalAddition : Obligations.DaaCorrectsDecimalAddition := by
  intro s x1 x0 y1 y0 hx1 hx0 hy1 hy0 ha
  obtain ⟨-, -, hadi, -⟩ := addFormsAddWithCarry s
  obtain ⟨-, t, hexec, hta, htcy, htac, -⟩ := hadi (BitVec.ofNat 8 (16 * y1 + y0))
  obtain ⟨a1, hrun0, hskip0, u, hdaa, -, -, hrun1, hskip1, hucy, -⟩ := daaAdjustsTwice.2 t
  obtain ⟨c0, d0, hc0, hd0, hones⟩ := exists_digit_carry (n := x0 + y0) (by omega)
  obtain ⟨c1, d1, hc1, hd1, htens⟩ := exists_digit_carry (n := x1 + y1 + c0) (by omega)
  rw [ha, toNat_packed hx1 hx0, toNat_packed hy1 hy0] at hta htcy htac
  have hsum : t.a.toNat = (16 * x1 + x0 + (16 * y1 + y0)) % 256 :=
    (congrArg BitVec.toNat hta).trans (BitVec.toNat_ofNat _ _)
  have hlow : (t.a.toNat % 16 > 9 ∨ flagAC t.f = true) ↔ c0 = 1 := by rw [htac]; omega
  rw [hlow] at hrun0 hskip0 hrun1 hskip1 hucy
  have ha1 : a1 = (16 * (x1 + y1 + c0) + d0) % 256 := by omega
  have hhigh : (a1 / 16 > 9 ∨ flagCY t.f = true ∨ (c0 = 1 ∧ t.a.toNat + 6 > 255)) ↔ c1 = 1 := by rw [htcy]; omega
  rw [hhigh] at hrun1 hskip1 hucy
  refine ⟨t, u, hexec, hdaa, c1, d1, d0, hd1, hd0, by omega, by omega, ?_⟩
  have hcarry : flagCY u.f = true ↔ c1 = 1 := by rw [hucy, htcy]; omega
  rw [← Bool.toNat_eq_one] at hcarry
  have hle := Bool.toNat_le (flagCY u.f)
  omega

end Sys2Proof.Machine

/-! PROOFS. The statements about data transfer (42_data_transfer.md): an instruction of this family writes one register, one pair or
one or two bytes of memory, and each of these writes is described once, for every instruction that makes it. -/

namespace Sys2Proof.Machine

/-! ## What a load and a store do -/

/-- An instruction that writes a register changes that register alone. -/
theorem onlyRegister_of_exec {i : Instr} {s : State} {r : Reg8} {v : Byte} (hr : r ≠ .m)
    (h : exec i s = .next (s.setReg8 r v)) : ∃ t, exec i s = .next t ∧ OnlyRegister r v s t :=
  ⟨_, h, onlyRegister_setReg8 hr v s⟩

/-- An instruction that writes a byte of memory stores it under the policy and changes nothing else (R77). -/
theorem storedByte_of_exec {i : Instr} {s : State} {x : Word} {v : Byte} (h : exec i s = .next (s.memWrite x v)) :
    ∃ t, exec i s = .next t ∧ StoredBytes [(x, v)] s t ∧ t = { s with mem := t.mem, outbox := t.outbox } :=
  ⟨_, h, storedBytes_memWrite s x v, s.memWrite_frame x v⟩

/-- The operand bytes of an address or an immediate word: the low byte first (R78). -/
theorem wordBytes_append (hi lo : Byte) : wordBytes (hi ++ lo) = [lo, hi] :=
  congrArg₂ (fun l h => [l, h]) (loByte_wordOf hi lo) (hiByte_wordOf hi lo)

/-! ## Moves and immediate bytes (R180 to R184) -/

/-- `01dddsss`, and with both fields 6 the encoding of HLT (R110). -/
theorem encode_mov (r1 r2 : Reg8) : encode (Asm.mov r1 r2) = [0b01#2 ++ regIndex r1 ++ regIndex r2] := by
  cases r1 <;> cases r2 <;> rfl

theorem encode_mvi (r : Reg8) (d8 : Byte) : encode (Asm.mvi r d8) = [0b00#2 ++ regIndex r ++ 0b110#3, d8] := by
  cases r <;> rfl

theorem exec_mov {r1 r2 : Reg8} (h : ¬(r1 = .m ∧ r2 = .m)) (s : State) :
    exec (Asm.mov r1 r2) s = .next (s.move r1 r2) := by
  cases r1 <;> cases r2
  case m.m => exact absurd ⟨rfl, rfl⟩ h
  all_goals rfl

theorem exec_mvi (r : Reg8) (d8 : Byte) (s : State) : exec (Asm.mvi r d8) s = .next (s.moveImm r d8) := by
  cases r <;> rfl

/-- The source of a move: a register, or the byte at HL (R32). -/
theorem State.ite_memRead_reg8 (s : State) (r : Reg8) :
    (if r = .m then s.memRead (s.h ++ s.l) else s.reg8 r) = s.reg8 r :=
  ite_eq_right_iff.mpr fun hr => hr ▸ rfl

/-- Settles O26: a move into a register is a write of that register (`onlyRegister_of_exec`), whatever its source. -/
theorem movIntoRegister : Obligations.MovIntoRegister := by
  intro s r1 r2 h1
  rw [State.ite_memRead_reg8]
  exact ⟨encode_mov r1 r2, onlyRegister_of_exec h1 (exec_mov (fun h => h1 h.1) s)⟩

/-- Settles O27: the immediate byte is written to the register alone (`onlyRegister_of_exec`). -/
theorem mviIntoRegister : Obligations.MviIntoRegister := fun s r d8 hr =>
  ⟨encode_mvi r d8, onlyRegister_of_exec hr (exec_mvi r d8 s)⟩

/-- Settles O28: with operand M both instructions write the byte at HL (`storedByte_of_exec`). -/
theorem movAndMviToMemory : Obligations.MovAndMviToMemory := fun s =>
  ⟨fun r hr => ⟨encode_mov .m r, storedByte_of_exec (exec_mov (fun h => hr h.2) s)⟩,
    fun d8 => ⟨encode_mvi .m d8, storedByte_of_exec (exec_mvi .m d8 s), fun _ _ => rfl⟩⟩

/-! ## Immediate words (R185) -/

theorem encode_lxi (rp : Pair) (d16 : Word) :
    encode (Asm.lxi rp d16) = (0b00#2 ++ pairIndex rp ++ 0b0001#4) :: wordBytes d16 := by
  cases rp <;> rfl

theorem exec_lxi (rp : Pair) (d16 : Word) (s : State) : exec (Asm.lxi rp d16) s = .next (s.loadPair rp d16) := by
  cases rp <;> rfl

/-- Settles O29: the word is written to the pair alone (`onlyPair_setPair`). -/
theorem lxiLoadsThePair : Obligations.LxiLoadsThePair := by
  intro s rp lo hi
  rw [encode_lxi, wordBytes_append]
  exact ⟨rfl, _, exec_lxi rp _ s, onlyPair_setPair rp _ s⟩

/-! ## A and memory (R186, R187, R190, R191) -/

-- The accumulator loads are writes of register A.
theorem exec_lda (a16 : Word) (s : State) : exec (.lda a16) s = .next (s.setReg8 .a (s.memRead a16)) := rfl
theorem exec_ldaxB (s : State) : exec .ldaxB s = .next (s.setReg8 .a (s.memRead (s.b ++ s.c))) := rfl
theorem exec_ldaxD (s : State) : exec .ldaxD s = .next (s.setReg8 .a (s.memRead (s.d ++ s.e))) := rfl

-- The accumulator stores are byte writes of A.
theorem exec_sta (a16 : Word) (s : State) : exec (.sta a16) s = .next (s.memWrite a16 s.a) := rfl
theorem exec_staxB (s : State) : exec .staxB s = .next (s.memWrite (s.b ++ s.c) s.a) := rfl
theorem exec_staxD (s : State) : exec .staxD s = .next (s.memWrite (s.d ++ s.e) s.a) := rfl

theorem encode_lda (a16 : Word) : encode (.lda a16) = 0b00111010#8 :: wordBytes a16 := rfl
theorem encode_sta (a16 : Word) : encode (.sta a16) = 0b00110010#8 :: wordBytes a16 := rfl

/-- Settles O30: the loads write A (`onlyRegister_of_exec`), the stores one byte (`storedByte_of_exec`), and the other two pair
indices are taken by the fixed table (R105). -/
theorem ldaxAndStaxUseThePair : Obligations.LdaxAndStaxUseThePair := fun s =>
  ⟨⟨rfl, onlyRegister_of_exec nofun (exec_ldaxB s)⟩, ⟨rfl, onlyRegister_of_exec nofun (exec_ldaxD s)⟩,
    ⟨rfl, storedByte_of_exec (exec_staxB s)⟩, ⟨rfl, storedByte_of_exec (exec_staxD s)⟩, rfl, rfl, rfl, rfl⟩

/-- Settles O31: a write of A and a byte write, at the address that the operand bytes spell (`wordBytes_append`). -/
theorem ldaAndStaUseTheAddress : Obligations.LdaAndStaUseTheAddress := by
  intro s lo hi
  rw [encode_lda, encode_sta, wordBytes_append]
  exact ⟨rfl, rfl, onlyRegister_of_exec nofun (exec_lda _ s), storedByte_of_exec (exec_sta _ s)⟩

/-! ## HL and memory, and the exchange (R188, R189, R192) -/

theorem encode_lhld (a16 : Word) : encode (.lhld a16) = 0b00101010#8 :: wordBytes a16 := rfl
theorem encode_shld (a16 : Word) : encode (.shld a16) = 0b00100010#8 :: wordBytes a16 := rfl

theorem exec_shld (a16 : Word) (s : State) : exec (.shld a16) s = .next (s.memWrite16 a16 (wordOf s.h s.l)) := rfl

/-- Settles O32: SHLD is one word write, of which `storedBytes_memWrite16` says what each byte does. -/
theorem lhldAndShldMoveHl : Obligations.LhldAndShldMoveHl := by
  intro s lo hi
  rw [encode_lhld, encode_shld, wordBytes_append]
  exact ⟨rfl, rfl, rfl, _, exec_shld _ s, storedBytes_memWrite16 s _ s.h s.l, s.memWrite16_frame _ _⟩

theorem exec_xchg (s : State) : exec .xchg s = .next { s with d := s.h, e := s.l, h := s.d, l := s.e } := rfl

/-- Settles O33: the second exchange takes the registers back (`exec_xchg`). -/
theorem xchgSwapsDeAndHl : Obligations.XchgSwapsDeAndHl :=
  ⟨rfl, fun s => ⟨exec_xchg s, exec_xchg _⟩⟩

end Sys2Proof.Machine

/-! PROOFS. The count of a pair (43_arith_logic.md R228, R229): INX and DCX are pair writes of the word after and the word before. -/

namespace Sys2Proof.Machine

/-! ## INX and DCX -/

theorem encode_inx (rp : Pair) : encode (Asm.inx rp) = [0b00#2 ++ pairIndex rp ++ 0b0011#4] := by
  cases rp <;> rfl

theorem encode_dcx (rp : Pair) : encode (Asm.dcx rp) = [0b00#2 ++ pairIndex rp ++ 0b1011#4] := by
  cases rp <;> rfl

theorem exec_inx (rp : Pair) (s : State) : exec (Asm.inx rp) s = .next (s.incPair rp) := by
  cases rp <;> rfl

theorem exec_dcx (rp : Pair) (s : State) : exec (Asm.dcx rp) s = .next (s.decPair rp) := by
  cases rp <;> rfl

/-- The word after, in plain arithmetic: 0x0000 comes after 0xFFFF. -/
theorem ofNat_toNat_add_one (v : Word) : BitVec.ofNat 16 (v.toNat + 1) = v + 1#16 := by
  rw [BitVec.ofNat_add, BitVec.ofNat_toNat, BitVec.setWidth_eq]

/-- The word before, in plain arithmetic: 0xFFFF comes before 0x0000. -/
theorem ofInt_toNat_sub_one (v : Word) : BitVec.ofInt 16 (v.toNat - 1) = v - 1#16 := by
  apply BitVec.eq_of_toInt_eq
  rw [BitVec.toInt_sub, BitVec.toInt_ofInt, BitVec.toInt_eq_toNat_bmod, Int.bmod_sub_bmod]
  rfl

/-- Settles O40: both counts write the pair alone (`onlyPair_setPair`). -/
theorem inxAndDcxCountPairs : Obligations.InxAndDcxCountPairs := by
  intro s rp
  rw [ofNat_toNat_add_one, ofInt_toNat_sub_one]
  exact ⟨⟨encode_inx rp, _, exec_inx rp s, onlyPair_setPair rp _ s⟩,
    encode_dcx rp, _, exec_dcx rp s, onlyPair_setPair rp _ s⟩

end Sys2Proof.Machine

/-! PROOFS. The statements about rotates, complement and carry (44_rotate_flag.md): a rotate writes A and CY, of which the new A is
spelled bit for bit once for each direction; and RAL turns CY and A, read as one word of nine bits, by one place. -/

namespace Sys2Proof.Machine

/-! ## Rotates of A (R235 to R238, D1) -/

/-- One bit of A, cut out. -/
theorem extractLsb'_one (v : Byte) (i : Nat) : v.extractLsb' i 1 = BitVec.ofBool (v.getLsbD i) := by
  apply BitVec.eq_of_getLsbD_eq
  intro j hj
  obtain rfl := Nat.lt_one_iff.mp hj
  simp

/-- A shift left puts the entering bit below the byte and drops the highest. -/
theorem shiftLeftIn_eq_setWidth (v : Byte) (x : Bool) : shiftLeftIn v x = (v.concat x).setWidth 8 := by
  apply BitVec.eq_of_toNat_eq
  simp only [shiftLeftIn, BitVec.toNat_ofNat, BitVec.toNat_setWidth, BitVec.toNat_concat]
  omega

/-- A shift left keeps the low seven bits, above the bit that enters. -/
theorem shiftLeftIn_eq_append (v : Byte) (x : Bool) : shiftLeftIn v x = v.extractLsb' 0 7 ++ BitVec.ofBool x := by
  rw [shiftLeftIn_eq_setWidth, BitVec.setWidth_eq_extractLsb' (by omega), BitVec.extractLsb'_concat,
    BitVec.append_ofBool]

/-- A shift right keeps the high seven bits, below the bit that enters. -/
theorem shiftRightIn_eq_append (v : Byte) (x : Bool) : shiftRightIn v x = BitVec.ofBool x ++ v.extractLsb' 1 7 := by
  rw [BitVec.ofBool_append]
  apply BitVec.eq_of_toNat_eq
  have hx := Bool.toNat_le x
  simp only [shiftRightIn, BitVec.toNat_ofNat, BitVec.toNat_cast, BitVec.toNat_cons', BitVec.extractLsb'_toNat,
    Nat.shiftRight_eq_div_pow, Nat.shiftLeft_eq]
  omega

/-- The effect of a rotate in the words of its statement (O44): A and CY are written and no other flag. -/
def RotateEffect (i : Instr) (s : State) (v : Byte) (cy : Bool) : Prop :=
  ∃ t, exec i s = .next t ∧ t.a = v ∧ flagCY t.f = cy ∧ SameBits [1, 2, 3, 4, 5, 6, 7] s.f t.f ∧ OnlyAF s t

theorem rotateEffect_of {i : Instr} {s : State} {v w : Byte} {cy : Bool} (hv : w = v)
    (h : exec i s = .next (s.setACarry w cy)) : RotateEffect i s v cy :=
  ⟨_, h, hv, flagCY_withCY s.f cy, sameBits_withCY s.f cy, rfl, fun _ => rfl⟩

theorem exec_rlc (s : State) :
    exec .rlc s = .next (s.setACarry (shiftLeftIn s.a (s.a.getLsbD 7)) (s.a.getLsbD 7)) := rfl
theorem exec_rrc (s : State) :
    exec .rrc s = .next (s.setACarry (shiftRightIn s.a (s.a.getLsbD 0)) (s.a.getLsbD 0)) := rfl
theorem exec_ral (s : State) : exec .ral s = .next s.rotateLeftCarry := rfl
theorem exec_rar (s : State) :
    exec .rar s = .next (s.setACarry (shiftRightIn s.a (flagCY s.f)) (s.a.getLsbD 0)) := rfl

/-- Settles O44: each rotate shifts A by one place (`shiftLeftIn_eq_append`, `shiftRightIn_eq_append`); they differ in the bit
that enters, the one that leaves A or CY. -/
theorem rotatesMoveOneBit : Obligations.RotatesMoveOneBit := by
  intro s
  rw [extractLsb'_one, extractLsb'_one]
  exact ⟨⟨rfl, rotateEffect_of (shiftLeftIn_eq_append _ _) (exec_rlc s)⟩,
    ⟨rfl, rotateEffect_of (shiftRightIn_eq_append _ _) (exec_rrc s)⟩,
    ⟨rfl, rotateEffect_of (shiftLeftIn_eq_append _ _) (exec_ral s)⟩,
    ⟨rfl, rotateEffect_of (shiftRightIn_eq_append _ _) (exec_rar s)⟩⟩

/-! ## Complement and carry (R239 to R241, D1) -/

theorem exec_cma (s : State) : exec .cma s = .next { s with a := ~~~s.a } :=
  congrArg (fun v => Host.Outcome.next (s.setA v)) BitVec.xor_allOnes

theorem exec_stc (s : State) : exec .stc s = .next (s.setF (withCY s.f true)) := rfl
theorem exec_cmc (s : State) : exec .cmc s = .next (s.setF (withCY s.f (!flagCY s.f))) := rfl

/-- An instruction that writes CY changes that flag alone. -/
theorem onlyCarry_of_exec {i : Instr} {s : State} {cy : Bool} (h : exec i s = .next (s.setF (withCY s.f cy))) :
    ∃ t, exec i s = .next t ∧ flagCY t.f = cy ∧ SameBits [1, 2, 3, 4, 5, 6, 7] s.f t.f ∧ t = { s with f := t.f } :=
  ⟨_, h, flagCY_withCY s.f cy, sameBits_withCY s.f cy, rfl⟩

/-- Settles O45: CMA writes A, and the other two write CY (`onlyCarry_of_exec`). -/
theorem complementAndCarry : Obligations.ComplementAndCarry :=
  ⟨rfl, rfl, rfl, fun s => ⟨exec_cma s, onlyCarry_of_exec (exec_stc s), onlyCarry_of_exec (exec_cmc s)⟩⟩

/-! ## CY and A as one word of nine bits (R237) -/

/-- Two rotations of a word are one, by the sum of their places. -/
theorem rotateLeft_rotateLeft {w : Nat} (x : BitVec w) (m n : Nat) :
    (x.rotateLeft m).rotateLeft n = x.rotateLeft (m + n) := by
  apply BitVec.eq_of_getMsbD_eq
  intro i hi
  have hmod : (n + i) % w < w := Nat.mod_lt _ (by omega)
  simp only [BitVec.getMsbD_rotateLeft, hi, hmod, decide_true, Bool.true_and, Nat.add_mod_mod, Nat.add_assoc]

/-- A rotation by all the places of a word changes nothing. -/
theorem rotateLeft_width {w : Nat} (x : BitVec w) : x.rotateLeft w = x := by
  apply BitVec.eq_of_getMsbD_eq
  intro i hi
  simp only [BitVec.getMsbD_rotateLeft, hi, decide_true, Bool.true_and, Nat.add_mod_left, Nat.mod_eq_of_lt]

/-- One place left: the highest bit comes in at the low end. -/
theorem cons_rotateLeft_one {w : Nat} (b : Bool) (v : BitVec w) : (BitVec.cons b v).rotateLeft 1 = v.concat b := by
  apply BitVec.eq_of_getMsbD_eq
  intro i hi
  rw [BitVec.getMsbD_rotateLeft, BitVec.getMsbD_concat, Nat.add_comm 1 i]
  rcases Nat.lt_succ_iff_lt_or_eq.mp hi with hlt | rfl
  · simp [hlt, hi, Nat.mod_eq_of_lt, BitVec.getMsbD_cons_succ]
  · simp [BitVec.getMsbD_cons_zero]

theorem withCY_withCY (f : Byte) (v w : Bool) : withCY (withCY f v) w = withCY f w := by
  apply BitVec.eq_of_getLsbD_eq
  intro i _
  simp only [getLsbD_withCY]
  split <;> rfl

theorem withCY_flagCY (f : Byte) : withCY f (flagCY f) = f := by
  apply BitVec.eq_of_getLsbD_eq
  intro i _
  rw [getLsbD_withCY]
  split
  next h => rw [h, flagCY_eq]
  next => rfl

/-- What RAL turns: CY, and below it the eight bits of A. -/
def State.carryA (s : State) : BitVec 9 := BitVec.cons (flagCY s.f) s.a

/-- Write CY and A from a word of nine bits. -/
def State.setCarryA (r : BitVec 9) (s : State) : State := s.setACarry (r.setWidth 8) r.msb

theorem State.setCarryA_carryA (s : State) : s.setCarryA s.carryA = s := by
  simp only [State.setCarryA, State.carryA, State.setACarry, BitVec.setWidth_cons, BitVec.msb_cons, withCY_flagCY]

@[simp] theorem State.carryA_setCarryA (s : State) (r : BitVec 9) : (s.setCarryA r).carryA = r := by
  simp only [State.setCarryA, State.carryA, State.setACarry, flagCY_withCY, BitVec.cons_msb_setWidth]

@[simp] theorem State.setCarryA_setCarryA (s : State) (r q : BitVec 9) :
    (s.setCarryA r).setCarryA q = s.setCarryA q := by
  simp only [State.setCarryA, State.setACarry, withCY_withCY]

/-- RAL turns CY and A by one place. -/
theorem State.rotateLeftCarry_eq (s : State) : s.rotateLeftCarry = s.setCarryA (s.carryA.rotateLeft 1) := by
  rw [State.carryA, cons_rotateLeft_one, State.setCarryA, BitVec.msb_concat, ← shiftLeftIn_eq_setWidth]
  rfl

/-- RAL taken `n + 1` times turns CY and A by as many places. -/
theorem State.iterate_rotateLeftCarry (s : State) (n : Nat) :
    State.rotateLeftCarry^[n + 1] s = s.setCarryA (s.carryA.rotateLeft (n + 1)) := by
  induction n with
  | zero => exact s.rotateLeftCarry_eq
  | succ n ih =>
    rw [Function.iterate_succ_apply', ih, State.rotateLeftCarry_eq, State.carryA_setCarryA, State.setCarryA_setCarryA,
      rotateLeft_rotateLeft]

/-- Settles O46: nine places are all of CY and A (`State.iterate_rotateLeftCarry`, `rotateLeft_width`). -/
theorem nineRalRestoreTheState : Obligations.NineRalRestoreTheState := by
  intro s ral
  have hral : Function.Semiconj Host.Outcome.next State.rotateLeftCarry ral := exec_ral
  have hturn : State.rotateLeftCarry^[9] s = s := by
    rw [State.iterate_rotateLeftCarry, rotateLeft_width, State.setCarryA_carryA]
  rw [← (hral.iterate_right 9).eq s, hturn]

end Sys2Proof.Machine

/-! PROOFS. The statements about jumps, calls, returns and restarts (45_branch.md R245 to R252): what a call and a return do is said
once, and a conditional transfer is the same transfer under its condition. -/

namespace Sys2Proof.Machine

/-! ## What a call and a return do (R84, R85) -/

/-- The effect of a call in the words of its statements (O47, O48): the old `pc` on the stack, the target in `pc`. -/
def CallEffect (i : Instr) (s : State) (target : Word) : Prop :=
  ∃ t, exec i s = .next t ∧ t.pc = target ∧ t.sp = s.sp - 2 ∧
    StoredBytes [(s.sp - 1, s.pc.extractLsb' 8 8), (s.sp - 2, s.pc.extractLsb' 0 8)] s t ∧
    t = { s with pc := t.pc, sp := t.sp, mem := t.mem, outbox := t.outbox }

theorem callEffect_of_exec {i : Instr} {s : State} {target : Word} (h : exec i s = .next (s.call target)) :
    CallEffect i s target := by
  obtain ⟨hsp, hstored, hframe⟩ := s.push16_spec s.pc
  exact ⟨_, h, rfl, hsp, hstored.congr rfl rfl, congrArg (State.setPc target) hframe⟩

theorem State.ret_eq (s : State) :
    s.ret = { s with pc := s.memRead (s.sp + 1) ++ s.memRead s.sp, sp := s.sp + 2 } := rfl

/-! ## The unconditional transfers (R245, R247, R249, R251, R252) -/

theorem encode_jmp (a16 : Word) : encode (.jmp a16) = 0b11000011#8 :: wordBytes a16 := rfl
theorem encode_call (a16 : Word) : encode (.call a16) = 0b11001101#8 :: wordBytes a16 := rfl

/-- `11nnn111` (R107 group 6). -/
theorem encode_rst (n : BitVec 3) : encode (Asm.rst n) = [0b11#2 ++ n ++ 0b111#3] := by
  revert n
  decide

theorem exec_jmp (a16 : Word) (s : State) : exec (.jmp a16) s = .next { s with pc := a16 } := rfl
theorem exec_pchl (s : State) : exec .pchl s = .next { s with pc := s.h ++ s.l } := rfl
theorem exec_call (a16 : Word) (s : State) : exec (.call a16) s = .next (s.call a16) := rfl
theorem exec_ret (s : State) : exec .ret s = .next s.ret := rfl

/-- A restart is a call to one of the eight multiples of 8. -/
theorem exec_rst (n : BitVec 3) (s : State) :
    exec (Asm.rst n) s = .next (s.call (BitVec.ofNat 16 (8 * n.toNat))) := by
  obtain ⟨n, hn⟩ := n
  interval_cases n <;> rfl

/-- Settles O47: JMP and PCHL write `pc`, CALL and RST are calls (`callEffect_of_exec`), and RET takes the two bytes back. -/
theorem unconditionalTransfersSetPc : Obligations.UnconditionalTransfersSetPc := by
  intro s
  refine ⟨⟨rfl, exec_pchl s⟩, ⟨rfl, (exec_ret s).trans (congrArg _ s.ret_eq)⟩,
    fun n => ⟨encode_rst n, callEffect_of_exec (exec_rst n s)⟩, fun lo hi => ?_⟩
  rw [encode_jmp, encode_call, wordBytes_append]
  exact ⟨⟨rfl, exec_jmp _ s⟩, rfl, callEffect_of_exec (exec_call _ s)⟩

/-! ## The conditional transfers (R246, R248, R250) -/

-- `11ccc010`, `11ccc100` and `11ccc000` (R107 group 7).
theorem encode_jcc (k : Cond) (a16 : Word) :
    encode (Asm.jcc k a16) = (0b11#2 ++ condIndex k ++ 0b010#3) :: wordBytes a16 := by
  cases k <;> rfl

theorem encode_ccc (k : Cond) (a16 : Word) :
    encode (Asm.ccc k a16) = (0b11#2 ++ condIndex k ++ 0b100#3) :: wordBytes a16 := by
  cases k <;> rfl

theorem encode_rcc (k : Cond) : encode (Asm.rcc k) = [0b11#2 ++ condIndex k ++ 0b000#3] := by
  cases k <;> rfl

/-- `i` transfers to the state `t` when `k` holds and does nothing when it does not, and `k` is what its `taken` asks (R134). -/
structure TransfersIf (k : Cond) (i : Instr) (s t : State) : Prop where
  condition : i.condition = some k
  exec_eq : exec i s = .next (if condHolds k s.f then t else s)

theorem transfersIf_jcc (k : Cond) (a16 : Word) (s : State) :
    TransfersIf k (Asm.jcc k a16) s { s with pc := a16 } := by
  cases k <;> exact ⟨rfl, rfl⟩

theorem transfersIf_ccc (k : Cond) (a16 : Word) (s : State) : TransfersIf k (Asm.ccc k a16) s (s.call a16) := by
  cases k <;> exact ⟨rfl, rfl⟩

theorem transfersIf_rcc (k : Cond) (s : State) : TransfersIf k (Asm.rcc k) s s.ret := by
  cases k <;> exact ⟨rfl, rfl⟩

theorem State.taken_of_condition {i : Instr} {k : Cond} (h : i.condition = some k) (s : State) :
    s.taken i = condHolds k s.f := by
  rw [State.taken, h]

/-- Where the condition holds, the transfer is made and `taken` is true. -/
theorem TransfersIf.of_holds {k : Cond} {i : Instr} {s t : State} (h : TransfersIf k i s t) (hk : condMeans k s.f) :
    exec i s = .next t ∧ s.taken i = true := by
  have hc : condHolds k s.f = true := (condHolds_iff k s.f).mpr hk
  exact ⟨h.exec_eq.trans (congrArg _ (if_pos hc)), (s.taken_of_condition h.condition).trans hc⟩

/-- Where it does not hold, the state is unchanged and `taken` is false. -/
theorem TransfersIf.of_fails {k : Cond} {i : Instr} {s t : State} (h : TransfersIf k i s t) (hk : ¬condMeans k s.f) :
    exec i s = .next s ∧ s.taken i = false := by
  have hc : ¬condHolds k s.f = true := fun hc => hk ((condHolds_iff k s.f).mp hc)
  exact ⟨h.exec_eq.trans (congrArg _ (if_neg hc)),
    (s.taken_of_condition h.condition).trans (Bool.eq_false_of_not_eq_true hc)⟩

/-- Settles O48: the three are a jump, a call and a return under the condition (`TransfersIf.of_holds`, `TransfersIf.of_fails`). -/
theorem conditionalTransfersTestTheirFlag : Obligations.ConditionalTransfersTestTheirFlag := by
  intro s k lo hi a16
  have hj := transfersIf_jcc k a16 s
  have hc := transfersIf_ccc k a16 s
  have hr := transfersIf_rcc k s
  rw [encode_jcc, encode_ccc, encode_rcc, wordBytes_append]
  refine ⟨rfl, rfl, rfl, fun hk => ?_, fun hk => ?_⟩
  · obtain ⟨hjump, hjt⟩ := hj.of_holds hk
    obtain ⟨hcall, hct⟩ := hc.of_holds hk
    obtain ⟨hret, hrt⟩ := hr.of_holds hk
    exact ⟨hjump, hret.trans (congrArg _ s.ret_eq), callEffect_of_exec hcall, hjt, hct, hrt⟩
  · obtain ⟨hjump, hjt⟩ := hj.of_fails hk
    obtain ⟨hcall, hct⟩ := hc.of_fails hk
    obtain ⟨hret, hrt⟩ := hr.of_fails hk
    exact ⟨hjump, hcall, hret, hjt, hct, hrt⟩

end Sys2Proof.Machine

/-! PROOFS. The statements about the stack, the ports and machine control (46_stack_io_machine.md R263 to R271): each instruction runs
one shared operation, whose effect is spelled out once as the fields it writes. -/

namespace Sys2Proof.Machine

/-! ## POP PSW (R263) -/

theorem State.popPair_fourth (s : State) : s.popPair .fourth =
    { s with a := s.memRead (s.sp + 1), f := forceReserved (s.memRead s.sp), sp := s.sp + 2 } := by
  rw [← s.hiByte_top16, ← s.loByte_top16]
  rfl

/-- The five flags are not among the bits that `forceReserved` forces (R40). -/
theorem sameBits_forceReserved (f : Byte) : SameBits [0, 2, 4, 6, 7] f (forceReserved f) := by
  intro k hk
  have hflag : k < 8 ∧ k ≠ 1 ∧ ¬(k = 3 ∨ k = 5) := by
    revert k
    decide
  obtain ⟨hlt, h1, h35⟩ := hflag
  rw [getLsbD_forceReserved f hlt, if_neg h1, if_neg h35]

/-- Settles O51: of the low byte popped, `forceReserved` keeps the five flags (`sameBits_forceReserved`) and fixes the reserved bits
(`flagsOk_forceReserved`). -/
theorem popPswForcesReservedBits : Obligations.PopPswForcesReservedBits := by
  refine ⟨rfl, fun s => ?_⟩
  obtain ⟨h5, h3, h1⟩ := flagsOk_forceReserved (s.memRead s.sp)
  exact ⟨_, (exec_pop .fourth s).trans (congrArg _ s.popPair_fourth), rfl, rfl, sameBits_forceReserved _, h5, h3, h1, rfl,
    fun _ => rfl⟩

/-! ## XTHL and SPHL (R264, R265) -/

theorem exec_sphl (s : State) : exec .sphl s = .next { s with sp := s.h ++ s.l } := rfl
theorem exec_xthl (s : State) : exec .xthl s = .next s.exchangeTop := rfl

-- HL takes the word that stood at SP, whatever the policy does to the bytes stored.
@[simp] theorem State.exchangeTop_h (s : State) : s.exchangeTop.h = s.memRead (s.sp + 1) := s.hiByte_top16
@[simp] theorem State.exchangeTop_l (s : State) : s.exchangeTop.l = s.memRead s.sp := s.loByte_top16

theorem storedBytes_exchangeTop (s : State) : StoredBytes [(s.sp, s.l), (s.sp + 1, s.h)] s s.exchangeTop :=
  (storedBytes_memWrite16 s s.sp s.h s.l).congr rfl rfl

theorem State.exchangeTop_frame (s : State) : s.exchangeTop =
    { s with h := s.exchangeTop.h, l := s.exchangeTop.l, mem := s.exchangeTop.mem, outbox := s.exchangeTop.outbox } :=
  congrArg (fun t : State => { t with h := hiByte s.top16, l := loByte s.top16 }) (s.memWrite16_frame s.sp s.hl)

/-- Settles O52: XTHL is a word write of HL (`storedBytes_exchangeTop`), after which HL takes the word read before it. -/
theorem xthlAndSphl : Obligations.XthlAndSphl :=
  ⟨rfl, rfl, fun s => ⟨exec_sphl s, _, exec_xthl s, s.exchangeTop_l, s.exchangeTop_h, storedBytes_exchangeTop s,
    s.exchangeTop_frame⟩⟩

/-! ## IN and OUT (R266, R267) -/

theorem exec_inp (port : Byte) (s : State) : exec (.inp port) s = .next ((s.drawPort port).setA (s.portAnswer port)) := rfl
theorem exec_out (port : Byte) (s : State) : exec (.out port) s = .next (s.portWrite port s.a) := rfl

/-- Settles O53: IN draws the port and writes the answer to A (`exec_inp`), OUT writes A to the port (`exec_out`). -/
theorem inAndOutUseA : Obligations.InAndOutUseA := fun s port =>
  ⟨rfl, rfl, exec_inp port s, exec_out port s⟩

/-! ## Machine control (R268 to R271) -/

theorem exec_ei (s : State) : exec .ei s = .next (s.setIe true) := rfl
theorem exec_di (s : State) : exec .di s = .next (s.setIe false) := rfl
theorem exec_hlt (s : State) : exec .hlt s = .next (s.setHalted true) := rfl
theorem exec_nop (s : State) : exec .nop s = .next s := rfl

/-- Settles O54: each instruction but NOP is one write of a single field (`State.setIe`, `State.setHalted`). -/
theorem machineControlChangesItsBit : Obligations.MachineControlChangesItsBit :=
  ⟨rfl, rfl, rfl, rfl, fun s => ⟨exec_ei s, exec_di s, exec_hlt s, exec_nop s⟩⟩

end Sys2Proof.Machine

/-! PROOFS. The statements about the step, its interrupts and the host between steps (60_exceptions.md). They are read off the four
cases of a step; that an interrupt is dropped rests on one more fact, that no instruction reads the latch. -/

namespace Sys2Proof.Machine

/-! ## The host between steps (R303, R327, R329) -/

/-- Settles O22. -/
theorem raiseOverwritesTheLatchOnly : Obligations.RaiseOverwritesTheLatchOnly := fun _ _ _ _ => rfl

theorem State.Inv.raiseInterrupt {s : State} (h : s.Inv) (op d1 d2 : Byte) : (s.raiseInterrupt op d1 d2).Inv :=
  h.of rfl rfl rfl rfl

/-- A host stop clears `running` and leaves a stop record (R50, R322). -/
theorem State.Inv.hostStop {s : State} (h : s.Inv) : s.hostStop.Inv :=
  ⟨h.flags, h.memory, by simp [State.hostStop]⟩

theorem State.Inv.bulkLoad {s : State} (h : s.Inv) (off : Nat) (bytes : List Byte) : (s.bulkLoad off bytes).Inv :=
  ⟨h.flags, Memory.wf_bulkWrite off bytes h.memory, h.stop⟩

theorem State.Inv.configure {s : State} (h : s.Inv) (cfg : Config) : (s.configure cfg).Inv := h.of rfl rfl rfl rfl

/-- Settles O20: of the four actions only a stop touches `running` and its record, only a load the memory. -/
theorem hostActionsKeepTheInvariant : Obligations.HostActionsKeepTheInvariant := fun _ h =>
  ⟨h.raiseInterrupt, h.hostStop, h.bulkLoad, h.configure⟩

/-! ## The branches of the step (R310, R355) -/

theorem stepCycles_stopped {s : State} (h : s.stepCase = .stopped) : stepCycles s = 0 := by
  rw [stepCycles, h]

theorem stepCycles_idle {s : State} (h : s.stepCase = .idle) : stepCycles s = Config.haltIdleCycles := by
  rw [stepCycles, h]

/-- Settles O6: what holds in a branch fixes the case of the step, and the case fixes the step and its count. -/
theorem stepFollowsItsBranches : Obligations.StepFollowsItsBranches := by
  intro s finish
  refine ⟨fun hr => ?_, fun hr hl hi => ?_, fun hr hn hh => ?_, fun hr hn hh => ?_⟩
  · have hc := State.stepCase_stopped hr
    exact ⟨step_stopped hc, stepCycles_stopped hc⟩
  · have hc := State.stepCase_service hr hl hi
    exact ⟨step_service hc, stepCycles_service hc⟩
  · have hc := State.stepCase_idle hr hn hh
    exact ⟨step_idle hc, stepCycles_idle hc⟩
  · have hc := State.stepCase_fetch hr hn hh
    exact ⟨step_fetch hc, stepCycles_fetch hc⟩

/-- Running an instruction and then the end of a step answers a next state. -/
theorem thenDo_exec_next (i : Instr) (s : State) (g : State → State) : ∃ t, thenDo (exec i s) g = .next t := by
  obtain ⟨u, hu⟩ := exec_next i s
  exact ⟨g u, congrArg (thenDo · g) hu⟩

/-- Settles O8: a stopped and an idle step answer a state outright, the other two run one instruction. -/
theorem everyStepAnswersANextState : Obligations.EveryStepAnswersANextState := by
  intro s
  rcases s.stepCase_cases with ⟨_, hc⟩ | ⟨_, _, _, hc⟩ | ⟨_, _, _, hc⟩ | ⟨_, _, _, hc⟩
  · exact ⟨s, step_stopped hc⟩
  · rw [step_service hc]
    exact thenDo_exec_next _ _ _
  · exact ⟨_, step_idle hc⟩
  · rw [step_fetch hc]
    exact thenDo_exec_next _ _ _

/-! ## The latch and `halted` after a step (R305, R308) -/

/-- No instruction writes the latch (R44). -/
theorem ExecEffect.latch_eq {i : Instr} {s t : State} (h : ExecEffect i s t) : t.latch = s.latch := by
  cases h with
  | fatal | ei | di | hlt => rfl
  | data hd =>
    obtain ⟨_, _, _, _, hlatch, _⟩ := hd.sameControl
    exact hlatch

/-- A step of a running machine leaves the latch empty. -/
theorem StepEffect.latch_empty {s t : State} (h : StepEffect s t) (hrun : s.running = true) :
    t.latch.latched = false := by
  cases h with
  | stopped hr => exact nomatch hrun.symm.trans hr
  | service _ _ _ he => rw [State.endStep_latched, he.latch_eq, State.enterInterrupt_latch, Bool.and_not_self]
  | idle => rw [State.endStep_latched, Bool.and_not_self]
  | fetch _ _ _ _ he => rw [State.endStep_latched, he.latch_eq, State.advance, State.setPc_latch, Bool.and_not_self]

/-- Settles O9: no instruction fills the latch, and the end of the step empties it. -/
theorem stepEmptiesTheLatch : Obligations.StepEmptiesTheLatch := by
  intro s hrun
  obtain ⟨t, ht⟩ := everyStepAnswersANextState s
  exact ⟨t, ht, (stepEffect_of_step ht).latch_empty hrun⟩

@[simp] theorem State.endStep_halted (s : State) (w : Bool) : (s.endStep w).halted = s.halted := by
  cases w <;> rfl

/-- Settles O11: a stopped and an idle step keep `halted`, and a halted machine does not fetch. -/
theorem haltedIsClearedOnlyByServicing : Obligations.HaltedIsClearedOnlyByServicing := by
  intro s t h hs ht
  cases stepEffect_of_step h with
  | stopped => exact nomatch hs.symm.trans ht
  | service hr hl hi => exact ⟨hr, hl, hi⟩
  | idle =>
    rw [State.endStep_halted] at ht
    exact nomatch hs.symm.trans ht
  | fetch _ _ hh => exact nomatch hs.symm.trans hh

/-! ## No instruction reads the latch (R44, R306) -/

/-- `latch <- v`. -/
def State.setLatch (v : Latch) (s : State) : State := { s with latch := v }

/-- The end of a step writes the latch alone, and empties it (R305). -/
theorem State.endStep_eq_setLatch (s : State) (w : Bool) :
    s.endStep w = s.setLatch { s.latch with latched := s.latch.latched && !w } := by
  cases w <;> simp [State.endStep, State.setLatch]

-- `rfl` does not see past the tests of the write policy and of a condition: the operations that make one commute with a write of the
-- latch by these lemmas.
section Commutes
variable (s : State) (v : Latch)

theorem State.memWrite_setLatch (x : Word) (u : Byte) : (s.setLatch v).memWrite x u = (s.memWrite x u).setLatch v := by
  rcases s.memWrite_cases x u with ⟨hp, h⟩ | ⟨hp, h⟩
  · rw [h, State.memWrite_of_protected (s := s.setLatch v) u hp]
    rfl
  · rw [h, State.memWrite_of_not_protected (s := s.setLatch v) u hp]
    rfl

theorem State.reg8_setLatch (r : Reg8) : (s.setLatch v).reg8 r = s.reg8 r := by
  cases r <;> rfl

theorem State.setReg8_setLatch (r : Reg8) (u : Byte) : (s.setLatch v).setReg8 r u = (s.setReg8 r u).setLatch v := by
  cases r with
  | m => exact s.memWrite_setLatch v s.hl u
  | b | c | d | e | h | l | a => rfl

theorem State.increment_setLatch (r : Reg8) : (s.setLatch v).increment r = (s.increment r).setLatch v := by
  rw [State.increment, State.reg8_setLatch, State.setReg8_setLatch]
  rfl

theorem State.decrement_setLatch (r : Reg8) : (s.setLatch v).decrement r = (s.decrement r).setLatch v := by
  rw [State.decrement, State.reg8_setLatch, State.setReg8_setLatch]
  rfl

theorem State.memWrite16_setLatch (x u : Word) : (s.setLatch v).memWrite16 x u = (s.memWrite16 x u).setLatch v := by
  simp only [State.memWrite16, State.memWrite_setLatch]

theorem State.exchangeTop_setLatch : (s.setLatch v).exchangeTop = s.exchangeTop.setLatch v :=
  congrArg (fun t : State => { t with h := hiByte s.top16, l := loByte s.top16 }) (s.memWrite16_setLatch v s.sp s.hl)

theorem State.push16_setLatch (u : Word) : (s.setLatch v).push16 u = (s.push16 u).setLatch v := by
  unfold State.push16
  rw [State.memWrite_setLatch, State.memWrite_setLatch]
  rfl

theorem State.call_setLatch (a16 : Word) : (s.setLatch v).call a16 = (s.call a16).setLatch v :=
  congrArg (State.setPc a16) (s.push16_setLatch v s.pc)

theorem State.jumpIf_setLatch (k : Cond) (a16 : Word) : (s.setLatch v).jumpIf k a16 = (s.jumpIf k a16).setLatch v := by
  simp only [State.jumpIf, apply_ite (State.setLatch v)]
  rfl

theorem State.callIf_setLatch (k : Cond) (a16 : Word) : (s.setLatch v).callIf k a16 = (s.callIf k a16).setLatch v := by
  simp only [State.callIf, apply_ite (State.setLatch v), State.call_setLatch]
  rfl

theorem State.retIf_setLatch (k : Cond) : (s.setLatch v).retIf k = (s.retIf k).setLatch v := by
  simp only [State.retIf, apply_ite (State.setLatch v)]
  rfl

/-- No instruction reads the latch: run with another latch, it does the same to the rest of the state. -/
theorem exec_setLatch (i : Instr) : exec i (s.setLatch v) = thenDo (exec i s) (State.setLatch v) := by
  cases i with
  | movMB | movMC | movMD | movME | movMH | movML | movMA | mviM | sta | staxB | staxD =>
    exact congrArg Host.Outcome.next (s.memWrite_setLatch v _ _)
  | inrB | inrC | inrD | inrE | inrH | inrL | inrM | inrA =>
    exact congrArg Host.Outcome.next (s.increment_setLatch v _)
  | dcrB | dcrC | dcrD | dcrE | dcrH | dcrL | dcrM | dcrA =>
    exact congrArg Host.Outcome.next (s.decrement_setLatch v _)
  | shld => exact congrArg Host.Outcome.next (s.memWrite16_setLatch v _ _)
  | xthl => exact congrArg Host.Outcome.next (s.exchangeTop_setLatch v)
  | pushB | pushD | pushH | pushPsw => exact congrArg Host.Outcome.next (s.push16_setLatch v _)
  | call | rst0 | rst1 | rst2 | rst3 | rst4 | rst5 | rst6 | rst7 =>
    exact congrArg Host.Outcome.next (s.call_setLatch v _)
  | jnz | jz | jnc | jc | jpo | jpe | jp | jm => exact congrArg Host.Outcome.next (s.jumpIf_setLatch v _ _)
  | cnz | cz | cnc | cc | cpo | cpe | cp | cm => exact congrArg Host.Outcome.next (s.callIf_setLatch v _ _)
  | rnz | rz | rnc | rc | rpo | rpe | rp | rm => exact congrArg Host.Outcome.next (s.retIf_setLatch v _)
  | _ => rfl

end Commutes

/-- To empty the latch after an instruction is to empty it before. -/
theorem thenDo_exec_endStep (i : Instr) (s : State) :
    thenDo (exec i s) (State.endStep true) = exec i (s.setLatch { s.latch with latched := false }) := by
  obtain ⟨u, hu, he⟩ := exists_execEffect i s
  rw [exec_setLatch, hu, thenDo_next, thenDo_next, State.endStep_eq_setLatch, he.latch_eq, Bool.not_true, Bool.and_false]

/-- The end of a step that began with the latch empty does nothing. -/
theorem thenDo_endStep_false (r : Result) : thenDo r (State.endStep false) = r := by
  cases r <;> rfl

/-- Settles O10: with IE clear neither state services its latch, so both idle or both fetch; the instruction fetched does not read
the latch (`thenDo_exec_endStep`). -/
theorem disabledInterruptIsDropped : Obligations.DisabledInterruptIsDropped := by
  intro s hr hl hi
  refine ⟨?_, stepEmptiesTheLatch s hr⟩
  let s' := s.setLatch { s.latch with latched := false }
  have hn : ¬(s.latch.latched = true ∧ s.ie = true) := by simp [hi]
  have hn' : ¬(s'.latch.latched = true ∧ s'.ie = true) := fun h => Bool.false_ne_true h.1
  obtain hh | hh := Bool.eq_false_or_eq_true s.halted
  · rw [step_idle (State.stepCase_idle hr hn hh), hl]
    exact (step_idle (State.stepCase_idle (s := s') hr hn' hh)).symm
  · rw [step_fetch (State.stepCase_fetch hr hn hh), hl, thenDo_exec_endStep]
    exact ((step_fetch (State.stepCase_fetch (s := s') hr hn' hh)).trans (thenDo_endStep_false _)).symm

/-! ## Ended runs (R316, R317, R319) -/

/-- A step of an ended run changes the latch alone: it is a stopped or an idle step. -/
theorem step_of_ended {s : State} (h : s.ended = true) : ∃ v, step s = .next (s.setLatch v) := by
  cases hr : s.running with
  | false => exact ⟨s.latch, step_stopped (State.stepCase_stopped hr)⟩
  | true =>
    obtain ⟨hh, hi⟩ : s.halted = true ∧ s.ie = false := by
      simpa [State.ended, State.permanentHalt, hr] using h
    have hc := State.stepCase_idle hr (by simp [hi]) hh
    exact ⟨_, (step_idle hc).trans (congrArg _ (s.endStep_eq_setLatch _))⟩

/-- Whether the run has ended does not depend on the latch. -/
theorem State.ended_setLatch (s : State) (v : Latch) : (s.setLatch v).ended = s.ended := rfl

/-- A raise, if any, and a step of an ended run change the latch alone. -/
theorem runRaising_cons_of_ended {s : State} (h : s.ended = true) (r : Option (Byte × Byte × Byte))
    (rs : List (Option (Byte × Byte × Byte))) : ∃ v, runRaising (r :: rs) s = runRaising rs (s.setLatch v) := by
  cases r with
  | none =>
    obtain ⟨v, hv⟩ := step_of_ended h
    exact ⟨v, by simp only [runRaising, hv]⟩
  | some r =>
    obtain ⟨op, d1, d2⟩ := r
    obtain ⟨v, hv⟩ : ∃ v, step (s.raiseInterrupt op d1 d2) = .next (s.setLatch v) := step_of_ended h
    exact ⟨v, by simp only [runRaising, hv]⟩

/-- Settles O15, by induction on the raises. -/
theorem endedRunsStayEnded : Obligations.EndedRunsStayEnded := by
  intro raises
  induction raises with
  | nil => exact fun s _ => ⟨s.latch, rfl⟩
  | cons r rs ih =>
    intro s h
    obtain ⟨v, hv⟩ := runRaising_cons_of_ended h r rs
    rw [hv]
    exact ih (s.setLatch v) ((s.ended_setLatch v).trans h)

/-! ## Interrupt entry by a restart (R309, R311) -/

/-- `11nnn111` is decoded as `RST n`, whatever follows it (R107 group 6). -/
theorem decodeInstr_rst (n : BitVec 3) (b2 b3 : Byte) : decodeInstr (0b11#2 ++ n ++ 0b111#3) b2 b3 = Asm.rst n := by
  have hwf : (Asm.rst n).wf = true := by
    revert n
    decide
  have hprefix : encode (Asm.rst n) <+: [0b11#2 ++ n ++ 0b111#3, b2, b3] := encode_rst n ▸ ⟨[b2, b3], rfl⟩
  exact (eq_decodeInstr_of_encode_prefix hwf hprefix).symm

/-- Settles O16: the step enters the interrupt, runs the restart, which is a call from the unadvanced `pc`, and empties the latch. -/
theorem latchedRstEntersItsHandler : Obligations.LatchedRstEntersItsHandler := by
  intro s n hr hl hi hop
  obtain ⟨t, hexec, hpc, hsp, hstored, hframe⟩ := callEffect_of_exec (exec_rst n s.enterInterrupt)
  have hie : t.ie = false := congrArg State.ie hframe
  have hhalted : t.halted = false := congrArg State.halted hframe
  have hlatch : t.latch = s.latch := (congrArg State.latch hframe).trans s.enterInterrupt_latch
  have hstep : step s = .next (t.setLatch { s.latch with latched := false }) := by
    rw [step_service (State.stepCase_service hr hl hi), hop, decodeInstr_rst, hexec, thenDo_next,
      State.endStep_eq_setLatch, hlatch, hl]
    rfl
  refine ⟨_, hstep, hpc, hsp, hie, hhalted, rfl, hstored.congr rfl rfl, ?_⟩
  exact (congrArg (State.setLatch _) hframe).trans (by simp [State.setLatch, hie, hhalted])

end Sys2Proof.Machine

/-! PROOFS. The statement about the stack at its boundaries (70_reset_and_hazards.md R351): with the write policy off the word a push
stores is the word a pop reads, for every SP, the addresses wrapping in both. -/

namespace Sys2Proof.Machine

/-- With the policy off the word pushed is the word on top of the stack (R84, R85). -/
theorem State.top16_push16 {s : State} (hoff : s.cfg.writeProtectEnabled = false) (v : Word) : (s.push16 v).top16 = v := by
  obtain ⟨hsp, ⟨hbytes, _, _⟩, _⟩ := s.push16_spec v
  have hhi := hbytes (s.sp - 1, hiByte v) (by simp)
  have hlo := hbytes (s.sp - 2, loByte v) (by simp)
  rw [State.not_protected_of_off hoff] at hhi hlo
  have haddr : s.sp - 2 + 1 = s.sp - 1 := by bv_omega
  rw [State.top16, State.memRead16, hsp, haddr, hhi, hlo]
  exact wordOf_hiByte_loByte v

/-- A pop moves SP up by 2, whichever pair it loads (R85). -/
@[simp] theorem State.popPair_sp (s : State) (rp : Pair) : (s.popPair rp).sp = s.sp + 2 := by
  cases rp <;> rfl

/-- The pair popped holds the top word, but for the reserved bits of F (R262, R263, D4). -/
theorem State.pair_popPair (s : State) (rp : Pair) : (s.popPair rp).pair rp .psw =
    if rp = .fourth then (s.top16 &&& 0xFFD7#16) ||| 0x0002#16 else s.top16 := by
  simpa [State.popPair] using s.dropTop.pair_setPair rp .psw s.top16

/-- PSW already has the bits that a pop forces while the reserved bits of F are right (R40). -/
theorem State.pair_psw_forced {s : State} (hf : flagsOk s.f) :
    (s.pair .fourth .psw &&& 0xFFD7#16) ||| 0x0002#16 = s.pair .fourth .psw := by
  rw [← wordOf_forceReserved, State.pair, hiByte_wordOf, loByte_wordOf, forceReserved_of_flagsOk hf]

/-- Settles O55: the pop finds the word pushed on top of the stack (`State.top16_push16`) and reads it back by `State.pair_popPair`;
the bits it forces in PSW are right already where F meets R40 (`State.pair_psw_forced`). -/
theorem pushThenPopGivesTheValueBack : Obligations.PushThenPopGivesTheValueBack := by
  intro s rp rq hoff
  have hpair : ((s.pushPair rp).popPair rq).pair rq .psw =
      if rq = .fourth then (s.pair rp .psw &&& 0xFFD7#16) ||| 0x0002#16 else s.pair rp .psw := by
    rw [State.pair_popPair, State.pushPair, State.top16_push16 hoff]
  have hsp : ((s.pushPair rp).popPair rq).sp = s.sp :=
    ((s.pushPair rp).popPair_sp rq).trans (BitVec.sub_add_cancel s.sp 2)
  refine ⟨_, _, exec_push rp s, exec_pop rq _, hsp, hpair, fun hf heq => ?_⟩
  subst heq
  rw [hpair]
  split
  · next hfourth =>
    subst hfourth
    exact State.pair_psw_forced hf
  · rfl

end Sys2Proof.Machine
